-- ==== Sys2Proof/Word.lean ====
section
/-! DEFINITION. Sys2Proof/Word.lean: the two word types of the machine. A bus transaction moves one
byte (rule R60, `DLEN` = 8) at a 16-bit address (`ALEN` = 16); every register of the core but the
program counter is a byte (rules R20 to R23), the program counter is an address (rule R24). -/

namespace Sys2Proof

/-- A byte: bit 0 is the least significant bit (rule R8). -/
abbrev Byte := BitVec 8

/-- A 16-bit bus address (rules R60, R61) and the type of the program counter (rule R24). -/
abbrev Addr := BitVec 16

end Sys2Proof
end

