-- ==== Sys2Proof/Syntax.lean ====
section
/-! DEFINITION. Sys2Proof/Syntax.lean: the instruction set as syntax. `Instr` has one constructor for each
of the 256 rows of spec/opcode_table.json: an instruction IS its opcode byte (rules R100, R101 and
R103: the opcode byte alone selects mnemonic, format and bus pattern), and its operand bytes are read
from the bus by the ticks of its pattern (notes/assumptions/27.md). `Code` is an instruction together
with the operand bytes that follow it in memory (the formats of rule R102). `Cycle` lists the ticks
that the tables of spec/40_addressing_modes.md and spec/60_exceptions.md are made of. -/

namespace Sys2Proof

/-- The opcode table (rule R111): one constructor for each opcode byte, in opcode order. A defined opcode
is named by its mnemonic and, where the mnemonic has several, its format; an undefined one (rule R115)
by its byte. -/
inductive Instr where
  | brk -- 0x00 `BRK`, rule R288
  | oraIzx -- 0x01 `ORA ($nn,X)`, rule R241
  | und02 -- undefined opcode 0x02, rule R300
  | und03 -- undefined opcode 0x03, rule R300
  | und04 -- undefined opcode 0x04, rule R300
  | oraZp -- 0x05 `ORA $nn`, rule R241
  | aslZp -- 0x06 `ASL $nn`, rule R244
  | und07 -- undefined opcode 0x07, rule R300
  | php -- 0x08 `PHP`, rule R201
  | oraImm -- 0x09 `ORA #$nn`, rule R241
  | aslAcc -- 0x0A `ASL A`, rule R244
  | und0B -- undefined opcode 0x0B, rule R300
  | und0C -- undefined opcode 0x0C, rule R300
  | oraAbs -- 0x0D `ORA $nnnn`, rule R241
  | aslAbs -- 0x0E `ASL $nnnn`, rule R244
  | und0F -- undefined opcode 0x0F, rule R300
  | bpl -- 0x10 `BPL label`, rule R270
  | oraIzy -- 0x11 `ORA ($nn),Y`, rule R241
  | und12 -- undefined opcode 0x12, rule R300
  | und13 -- undefined opcode 0x13, rule R300
  | und14 -- undefined opcode 0x14, rule R300
  | oraZpx -- 0x15 `ORA $nn,X`, rule R241
  | aslZpx -- 0x16 `ASL $nn,X`, rule R244
  | und17 -- undefined opcode 0x17, rule R300
  | clc -- 0x18 `CLC`, rule R280
  | oraAby -- 0x19 `ORA $nnnn,Y`, rule R241
  | und1A -- undefined opcode 0x1A, rule R300
  | und1B -- undefined opcode 0x1B, rule R300
  | und1C -- undefined opcode 0x1C, rule R300
  | oraAbx -- 0x1D `ORA $nnnn,X`, rule R241
  | aslAbx -- 0x1E `ASL $nnnn,X`, rule R244
  | und1F -- undefined opcode 0x1F, rule R300
  | jsr -- 0x20 `JSR $nnnn`, rule R262
  | andIzx -- 0x21 `AND ($nn,X)`, rule R240
  | und22 -- undefined opcode 0x22, rule R300
  | und23 -- undefined opcode 0x23, rule R300
  | bitZp -- 0x24 `BIT $nn`, rule R243
  | andZp -- 0x25 `AND $nn`, rule R240
  | rolZp -- 0x26 `ROL $nn`, rule R246
  | und27 -- undefined opcode 0x27, rule R300
  | plp -- 0x28 `PLP`, rule R203
  | andImm -- 0x29 `AND #$nn`, rule R240
  | rolAcc -- 0x2A `ROL A`, rule R246
  | und2B -- undefined opcode 0x2B, rule R300
  | bitAbs -- 0x2C `BIT $nnnn`, rule R243
  | andAbs -- 0x2D `AND $nnnn`, rule R240
  | rolAbs -- 0x2E `ROL $nnnn`, rule R246
  | und2F -- undefined opcode 0x2F, rule R300
  | bmi -- 0x30 `BMI label`, rule R269
  | andIzy -- 0x31 `AND ($nn),Y`, rule R240
  | und32 -- undefined opcode 0x32, rule R300
  | und33 -- undefined opcode 0x33, rule R300
  | und34 -- undefined opcode 0x34, rule R300
  | andZpx -- 0x35 `AND $nn,X`, rule R240
  | rolZpx -- 0x36 `ROL $nn,X`, rule R246
  | und37 -- undefined opcode 0x37, rule R300
  | sec -- 0x38 `SEC`, rule R281
  | andAby -- 0x39 `AND $nnnn,Y`, rule R240
  | und3A -- undefined opcode 0x3A, rule R300
  | und3B -- undefined opcode 0x3B, rule R300
  | und3C -- undefined opcode 0x3C, rule R300
  | andAbx -- 0x3D `AND $nnnn,X`, rule R240
  | rolAbx -- 0x3E `ROL $nnnn,X`, rule R246
  | und3F -- undefined opcode 0x3F, rule R300
  | rti -- 0x40 `RTI`, rule R289
  | eorIzx -- 0x41 `EOR ($nn,X)`, rule R242
  | und42 -- undefined opcode 0x42, rule R300
  | und43 -- undefined opcode 0x43, rule R300
  | und44 -- undefined opcode 0x44, rule R300
  | eorZp -- 0x45 `EOR $nn`, rule R242
  | lsrZp -- 0x46 `LSR $nn`, rule R245
  | und47 -- undefined opcode 0x47, rule R300
  | pha -- 0x48 `PHA`, rule R200
  | eorImm -- 0x49 `EOR #$nn`, rule R242
  | lsrAcc -- 0x4A `LSR A`, rule R245
  | und4B -- undefined opcode 0x4B, rule R300
  | jmpAbs -- 0x4C `JMP $nnnn`, rule R260
  | eorAbs -- 0x4D `EOR $nnnn`, rule R242
  | lsrAbs -- 0x4E `LSR $nnnn`, rule R245
  | und4F -- undefined opcode 0x4F, rule R300
  | bvc -- 0x50 `BVC label`, rule R271
  | eorIzy -- 0x51 `EOR ($nn),Y`, rule R242
  | und52 -- undefined opcode 0x52, rule R300
  | und53 -- undefined opcode 0x53, rule R300
  | und54 -- undefined opcode 0x54, rule R300
  | eorZpx -- 0x55 `EOR $nn,X`, rule R242
  | lsrZpx -- 0x56 `LSR $nn,X`, rule R245
  | und57 -- undefined opcode 0x57, rule R300
  | cli -- 0x58 `CLI`, rule R282
  | eorAby -- 0x59 `EOR $nnnn,Y`, rule R242
  | und5A -- undefined opcode 0x5A, rule R300
  | und5B -- undefined opcode 0x5B, rule R300
  | und5C -- undefined opcode 0x5C, rule R300
  | eorAbx -- 0x5D `EOR $nnnn,X`, rule R242
  | lsrAbx -- 0x5E `LSR $nnnn,X`, rule R245
  | und5F -- undefined opcode 0x5F, rule R300
  | rts -- 0x60 `RTS`, rule R263
  | adcIzx -- 0x61 `ADC ($nn,X)`, rule R210
  | und62 -- undefined opcode 0x62, rule R300
  | und63 -- undefined opcode 0x63, rule R300
  | und64 -- undefined opcode 0x64, rule R300
  | adcZp -- 0x65 `ADC $nn`, rule R210
  | rorZp -- 0x66 `ROR $nn`, rule R247
  | und67 -- undefined opcode 0x67, rule R300
  | pla -- 0x68 `PLA`, rule R202
  | adcImm -- 0x69 `ADC #$nn`, rule R210
  | rorAcc -- 0x6A `ROR A`, rule R247
  | und6B -- undefined opcode 0x6B, rule R300
  | jmpInd -- 0x6C `JMP ($nnnn)`, rule R261
  | adcAbs -- 0x6D `ADC $nnnn`, rule R210
  | rorAbs -- 0x6E `ROR $nnnn`, rule R247
  | und6F -- undefined opcode 0x6F, rule R300
  | bvs -- 0x70 `BVS label`, rule R272
  | adcIzy -- 0x71 `ADC ($nn),Y`, rule R210
  | und72 -- undefined opcode 0x72, rule R300
  | und73 -- undefined opcode 0x73, rule R300
  | und74 -- undefined opcode 0x74, rule R300
  | adcZpx -- 0x75 `ADC $nn,X`, rule R210
  | rorZpx -- 0x76 `ROR $nn,X`, rule R247
  | und77 -- undefined opcode 0x77, rule R300
  | sei -- 0x78 `SEI`, rule R283
  | adcAby -- 0x79 `ADC $nnnn,Y`, rule R210
  | und7A -- undefined opcode 0x7A, rule R300
  | und7B -- undefined opcode 0x7B, rule R300
  | und7C -- undefined opcode 0x7C, rule R300
  | adcAbx -- 0x7D `ADC $nnnn,X`, rule R210
  | rorAbx -- 0x7E `ROR $nnnn,X`, rule R247
  | und7F -- undefined opcode 0x7F, rule R300
  | und80 -- undefined opcode 0x80, rule R300
  | staIzx -- 0x81 `STA ($nn,X)`, rule R183
  | und82 -- undefined opcode 0x82, rule R300
  | und83 -- undefined opcode 0x83, rule R300
  | styZp -- 0x84 `STY $nn`, rule R185
  | staZp -- 0x85 `STA $nn`, rule R183
  | stxZp -- 0x86 `STX $nn`, rule R184
  | und87 -- undefined opcode 0x87, rule R300
  | dey -- 0x88 `DEY`, rule R223
  | und89 -- undefined opcode 0x89, rule R300
  | txa -- 0x8A `TXA`, rule R188
  | und8B -- undefined opcode 0x8B, rule R300
  | styAbs -- 0x8C `STY $nnnn`, rule R185
  | staAbs -- 0x8D `STA $nnnn`, rule R183
  | stxAbs -- 0x8E `STX $nnnn`, rule R184
  | und8F -- undefined opcode 0x8F, rule R300
  | bcc -- 0x90 `BCC label`, rule R265
  | staIzy -- 0x91 `STA ($nn),Y`, rule R183
  | und92 -- undefined opcode 0x92, rule R300
  | und93 -- undefined opcode 0x93, rule R300
  | styZpx -- 0x94 `STY $nn,X`, rule R185
  | staZpx -- 0x95 `STA $nn,X`, rule R183
  | stxZpy -- 0x96 `STX $nn,Y`, rule R184
  | und97 -- undefined opcode 0x97, rule R300
  | tya -- 0x98 `TYA`, rule R189
  | staAby -- 0x99 `STA $nnnn,Y`, rule R183
  | txs -- 0x9A `TXS`, rule R191
  | und9B -- undefined opcode 0x9B, rule R300
  | und9C -- undefined opcode 0x9C, rule R300
  | staAbx -- 0x9D `STA $nnnn,X`, rule R183
  | und9E -- undefined opcode 0x9E, rule R300
  | und9F -- undefined opcode 0x9F, rule R300
  | ldyImm -- 0xA0 `LDY #$nn`, rule R182
  | ldaIzx -- 0xA1 `LDA ($nn,X)`, rule R180
  | ldxImm -- 0xA2 `LDX #$nn`, rule R181
  | undA3 -- undefined opcode 0xA3, rule R300
  | ldyZp -- 0xA4 `LDY $nn`, rule R182
  | ldaZp -- 0xA5 `LDA $nn`, rule R180
  | ldxZp -- 0xA6 `LDX $nn`, rule R181
  | undA7 -- undefined opcode 0xA7, rule R300
  | tay -- 0xA8 `TAY`, rule R187
  | ldaImm -- 0xA9 `LDA #$nn`, rule R180
  | tax -- 0xAA `TAX`, rule R186
  | undAB -- undefined opcode 0xAB, rule R300
  | ldyAbs -- 0xAC `LDY $nnnn`, rule R182
  | ldaAbs -- 0xAD `LDA $nnnn`, rule R180
  | ldxAbs -- 0xAE `LDX $nnnn`, rule R181
  | undAF -- undefined opcode 0xAF, rule R300
  | bcs -- 0xB0 `BCS label`, rule R266
  | ldaIzy -- 0xB1 `LDA ($nn),Y`, rule R180
  | undB2 -- undefined opcode 0xB2, rule R300
  | undB3 -- undefined opcode 0xB3, rule R300
  | ldyZpx -- 0xB4 `LDY $nn,X`, rule R182
  | ldaZpx -- 0xB5 `LDA $nn,X`, rule R180
  | ldxZpy -- 0xB6 `LDX $nn,Y`, rule R181
  | undB7 -- undefined opcode 0xB7, rule R300
  | clv -- 0xB8 `CLV`, rule R286
  | ldaAby -- 0xB9 `LDA $nnnn,Y`, rule R180
  | tsx -- 0xBA `TSX`, rule R190
  | undBB -- undefined opcode 0xBB, rule R300
  | ldyAbx -- 0xBC `LDY $nnnn,X`, rule R182
  | ldaAbx -- 0xBD `LDA $nnnn,X`, rule R180
  | ldxAby -- 0xBE `LDX $nnnn,Y`, rule R181
  | undBF -- undefined opcode 0xBF, rule R300
  | cpyImm -- 0xC0 `CPY #$nn`, rule R217
  | cmpIzx -- 0xC1 `CMP ($nn,X)`, rule R215
  | undC2 -- undefined opcode 0xC2, rule R300
  | undC3 -- undefined opcode 0xC3, rule R300
  | cpyZp -- 0xC4 `CPY $nn`, rule R217
  | cmpZp -- 0xC5 `CMP $nn`, rule R215
  | decZp -- 0xC6 `DEC $nn`, rule R221
  | undC7 -- undefined opcode 0xC7, rule R300
  | iny -- 0xC8 `INY`, rule R220
  | cmpImm -- 0xC9 `CMP #$nn`, rule R215
  | dex -- 0xCA `DEX`, rule R222
  | undCB -- undefined opcode 0xCB, rule R300
  | cpyAbs -- 0xCC `CPY $nnnn`, rule R217
  | cmpAbs -- 0xCD `CMP $nnnn`, rule R215
  | decAbs -- 0xCE `DEC $nnnn`, rule R221
  | undCF -- undefined opcode 0xCF, rule R300
  | bne -- 0xD0 `BNE label`, rule R268
  | cmpIzy -- 0xD1 `CMP ($nn),Y`, rule R215
  | undD2 -- undefined opcode 0xD2, rule R300
  | undD3 -- undefined opcode 0xD3, rule R300
  | undD4 -- undefined opcode 0xD4, rule R300
  | cmpZpx -- 0xD5 `CMP $nn,X`, rule R215
  | decZpx -- 0xD6 `DEC $nn,X`, rule R221
  | undD7 -- undefined opcode 0xD7, rule R300
  | cld -- 0xD8 `CLD`, rule R284
  | cmpAby -- 0xD9 `CMP $nnnn,Y`, rule R215
  | undDA -- undefined opcode 0xDA, rule R300
  | undDB -- undefined opcode 0xDB, rule R300
  | undDC -- undefined opcode 0xDC, rule R300
  | cmpAbx -- 0xDD `CMP $nnnn,X`, rule R215
  | decAbx -- 0xDE `DEC $nnnn,X`, rule R221
  | undDF -- undefined opcode 0xDF, rule R300
  | cpxImm -- 0xE0 `CPX #$nn`, rule R216
  | sbcIzx -- 0xE1 `SBC ($nn,X)`, rule R213
  | undE2 -- undefined opcode 0xE2, rule R300
  | undE3 -- undefined opcode 0xE3, rule R300
  | cpxZp -- 0xE4 `CPX $nn`, rule R216
  | sbcZp -- 0xE5 `SBC $nn`, rule R213
  | incZp -- 0xE6 `INC $nn`, rule R218
  | undE7 -- undefined opcode 0xE7, rule R300
  | inx -- 0xE8 `INX`, rule R219
  | sbcImm -- 0xE9 `SBC #$nn`, rule R213
  | nop -- 0xEA `NOP`, rule R287
  | undEB -- undefined opcode 0xEB, rule R300
  | cpxAbs -- 0xEC `CPX $nnnn`, rule R216
  | sbcAbs -- 0xED `SBC $nnnn`, rule R213
  | incAbs -- 0xEE `INC $nnnn`, rule R218
  | undEF -- undefined opcode 0xEF, rule R300
  | beq -- 0xF0 `BEQ label`, rule R267
  | sbcIzy -- 0xF1 `SBC ($nn),Y`, rule R213
  | undF2 -- undefined opcode 0xF2, rule R300
  | undF3 -- undefined opcode 0xF3, rule R300
  | undF4 -- undefined opcode 0xF4, rule R300
  | sbcZpx -- 0xF5 `SBC $nn,X`, rule R213
  | incZpx -- 0xF6 `INC $nn,X`, rule R218
  | undF7 -- undefined opcode 0xF7, rule R300
  | sed -- 0xF8 `SED`, rule R285
  | sbcAby -- 0xF9 `SBC $nnnn,Y`, rule R213
  | undFA -- undefined opcode 0xFA, rule R300
  | undFB -- undefined opcode 0xFB, rule R300
  | undFC -- undefined opcode 0xFC, rule R300
  | sbcAbx -- 0xFD `SBC $nnnn,X`, rule R213
  | incAbx -- 0xFE `INC $nnnn,X`, rule R218
  | undFF -- undefined opcode 0xFF, rule R300
  deriving DecidableEq, Repr, Inhabited

/-- The thirteen formats of rule R102, and the format of an undefined opcode, which is one byte
(rule R304). -/
inductive Format where
  | imp | acc | imm | zp | zpx | zpy | rel | izx | izy | abs | abx | aby | ind | undefined
  deriving DecidableEq, Repr

/-- How many operand bytes follow the opcode byte (rule R102). -/
def Format.operandLength : Format → Nat
  | .imp | .acc | .undefined => 0
  | .imm | .zp | .zpx | .zpy | .rel | .izx | .izy => 1
  | .abs | .abx | .aby | .ind => 2

/-- The format of each opcode (rules R102 and R110, the `format` column of the opcode table). -/
def Instr.format : Instr → Format
  | .brk => .imp
  | .oraIzx => .izx
  | .und02 => .undefined
  | .und03 => .undefined
  | .und04 => .undefined
  | .oraZp => .zp
  | .aslZp => .zp
  | .und07 => .undefined
  | .php => .imp
  | .oraImm => .imm
  | .aslAcc => .acc
  | .und0B => .undefined
  | .und0C => .undefined
  | .oraAbs => .abs
  | .aslAbs => .abs
  | .und0F => .undefined
  | .bpl => .rel
  | .oraIzy => .izy
  | .und12 => .undefined
  | .und13 => .undefined
  | .und14 => .undefined
  | .oraZpx => .zpx
  | .aslZpx => .zpx
  | .und17 => .undefined
  | .clc => .imp
  | .oraAby => .aby
  | .und1A => .undefined
  | .und1B => .undefined
  | .und1C => .undefined
  | .oraAbx => .abx
  | .aslAbx => .abx
  | .und1F => .undefined
  | .jsr => .abs
  | .andIzx => .izx
  | .und22 => .undefined
  | .und23 => .undefined
  | .bitZp => .zp
  | .andZp => .zp
  | .rolZp => .zp
  | .und27 => .undefined
  | .plp => .imp
  | .andImm => .imm
  | .rolAcc => .acc
  | .und2B => .undefined
  | .bitAbs => .abs
  | .andAbs => .abs
  | .rolAbs => .abs
  | .und2F => .undefined
  | .bmi => .rel
  | .andIzy => .izy
  | .und32 => .undefined
  | .und33 => .undefined
  | .und34 => .undefined
  | .andZpx => .zpx
  | .rolZpx => .zpx
  | .und37 => .undefined
  | .sec => .imp
  | .andAby => .aby
  | .und3A => .undefined
  | .und3B => .undefined
  | .und3C => .undefined
  | .andAbx => .abx
  | .rolAbx => .abx
  | .und3F => .undefined
  | .rti => .imp
  | .eorIzx => .izx
  | .und42 => .undefined
  | .und43 => .undefined
  | .und44 => .undefined
  | .eorZp => .zp
  | .lsrZp => .zp
  | .und47 => .undefined
  | .pha => .imp
  | .eorImm => .imm
  | .lsrAcc => .acc
  | .und4B => .undefined
  | .jmpAbs => .abs
  | .eorAbs => .abs
  | .lsrAbs => .abs
  | .und4F => .undefined
  | .bvc => .rel
  | .eorIzy => .izy
  | .und52 => .undefined
  | .und53 => .undefined
  | .und54 => .undefined
  | .eorZpx => .zpx
  | .lsrZpx => .zpx
  | .und57 => .undefined
  | .cli => .imp
  | .eorAby => .aby
  | .und5A => .undefined
  | .und5B => .undefined
  | .und5C => .undefined
  | .eorAbx => .abx
  | .lsrAbx => .abx
  | .und5F => .undefined
  | .rts => .imp
  | .adcIzx => .izx
  | .und62 => .undefined
  | .und63 => .undefined
  | .und64 => .undefined
  | .adcZp => .zp
  | .rorZp => .zp
  | .und67 => .undefined
  | .pla => .imp
  | .adcImm => .imm
  | .rorAcc => .acc
  | .und6B => .undefined
  | .jmpInd => .ind
  | .adcAbs => .abs
  | .rorAbs => .abs
  | .und6F => .undefined
  | .bvs => .rel
  | .adcIzy => .izy
  | .und72 => .undefined
  | .und73 => .undefined
  | .und74 => .undefined
  | .adcZpx => .zpx
  | .rorZpx => .zpx
  | .und77 => .undefined
  | .sei => .imp
  | .adcAby => .aby
  | .und7A => .undefined
  | .und7B => .undefined
  | .und7C => .undefined
  | .adcAbx => .abx
  | .rorAbx => .abx
  | .und7F => .undefined
  | .und80 => .undefined
  | .staIzx => .izx
  | .und82 => .undefined
  | .und83 => .undefined
  | .styZp => .zp
  | .staZp => .zp
  | .stxZp => .zp
  | .und87 => .undefined
  | .dey => .imp
  | .und89 => .undefined
  | .txa => .imp
  | .und8B => .undefined
  | .styAbs => .abs
  | .staAbs => .abs
  | .stxAbs => .abs
  | .und8F => .undefined
  | .bcc => .rel
  | .staIzy => .izy
  | .und92 => .undefined
  | .und93 => .undefined
  | .styZpx => .zpx
  | .staZpx => .zpx
  | .stxZpy => .zpy
  | .und97 => .undefined
  | .tya => .imp
  | .staAby => .aby
  | .txs => .imp
  | .und9B => .undefined
  | .und9C => .undefined
  | .staAbx => .abx
  | .und9E => .undefined
  | .und9F => .undefined
  | .ldyImm => .imm
  | .ldaIzx => .izx
  | .ldxImm => .imm
  | .undA3 => .undefined
  | .ldyZp => .zp
  | .ldaZp => .zp
  | .ldxZp => .zp
  | .undA7 => .undefined
  | .tay => .imp
  | .ldaImm => .imm
  | .tax => .imp
  | .undAB => .undefined
  | .ldyAbs => .abs
  | .ldaAbs => .abs
  | .ldxAbs => .abs
  | .undAF => .undefined
  | .bcs => .rel
  | .ldaIzy => .izy
  | .undB2 => .undefined
  | .undB3 => .undefined
  | .ldyZpx => .zpx
  | .ldaZpx => .zpx
  | .ldxZpy => .zpy
  | .undB7 => .undefined
  | .clv => .imp
  | .ldaAby => .aby
  | .tsx => .imp
  | .undBB => .undefined
  | .ldyAbx => .abx
  | .ldaAbx => .abx
  | .ldxAby => .aby
  | .undBF => .undefined
  | .cpyImm => .imm
  | .cmpIzx => .izx
  | .undC2 => .undefined
  | .undC3 => .undefined
  | .cpyZp => .zp
  | .cmpZp => .zp
  | .decZp => .zp
  | .undC7 => .undefined
  | .iny => .imp
  | .cmpImm => .imm
  | .dex => .imp
  | .undCB => .undefined
  | .cpyAbs => .abs
  | .cmpAbs => .abs
  | .decAbs => .abs
  | .undCF => .undefined
  | .bne => .rel
  | .cmpIzy => .izy
  | .undD2 => .undefined
  | .undD3 => .undefined
  | .undD4 => .undefined
  | .cmpZpx => .zpx
  | .decZpx => .zpx
  | .undD7 => .undefined
  | .cld => .imp
  | .cmpAby => .aby
  | .undDA => .undefined
  | .undDB => .undefined
  | .undDC => .undefined
  | .cmpAbx => .abx
  | .decAbx => .abx
  | .undDF => .undefined
  | .cpxImm => .imm
  | .sbcIzx => .izx
  | .undE2 => .undefined
  | .undE3 => .undefined
  | .cpxZp => .zp
  | .sbcZp => .zp
  | .incZp => .zp
  | .undE7 => .undefined
  | .inx => .imp
  | .sbcImm => .imm
  | .nop => .imp
  | .undEB => .undefined
  | .cpxAbs => .abs
  | .sbcAbs => .abs
  | .incAbs => .abs
  | .undEF => .undefined
  | .beq => .rel
  | .sbcIzy => .izy
  | .undF2 => .undefined
  | .undF3 => .undefined
  | .undF4 => .undefined
  | .sbcZpx => .zpx
  | .incZpx => .zpx
  | .undF7 => .undefined
  | .sed => .imp
  | .sbcAby => .aby
  | .undFA => .undefined
  | .undFB => .undefined
  | .undFC => .undefined
  | .sbcAbx => .abx
  | .incAbx => .abx
  | .undFF => .undefined

/-- An instruction as it stands in memory: the opcode and the operand bytes that follow it, lowest address
first (rule R100). -/
structure Code where
  instr    : Instr
  operands : List Byte
  deriving DecidableEq, Repr

/-- The two index registers (rules R21, R22). -/
inductive Index where
  | x | y
  deriving DecidableEq, Repr

/-- Which address the latches give: `{0x00, ADL}` (zero page) or `{ADH, ADL}`. -/
inductive Space where
  | zeroPage | absolute
  deriving DecidableEq, Repr

/-- What the running interrupt sequence serves (rule R32, `seq_kind`). -/
inductive SeqKind where
  | irq | nmi | reset
  deriving DecidableEq, Repr

/-- One row of a bus pattern: the transaction of one tick and the latch, register and flag writes at its
end (rule R132). The meaning is `Machine.cycleAct`. -/
inductive Cycle where
  /-- read `PC`, discard, `PC` not incremented; `exec()` (rule R133) -/
  | implied
  /-- read `PC` into `DL`, increment `PC`; `exec(DL)` (rule R134) -/
  | immediate
  /-- read `PC` into `ADL`, increment `PC` (rules R135 to R144) -/
  | fetchAdl
  /-- read `PC` into `ADH`, increment `PC` (rule R140) -/
  | fetchAdh
  /-- read `PC` into `ADH`, increment `PC`; add the index to `ADL` and keep the carry (rule R142) -/
  | fetchAdhIndexed (i : Index)
  /-- read `PC` into `PTR`, increment `PC` (rules R145, R147) -/
  | fetchPtr
  /-- read `{0x00, ADL}`, discard; add the index to `ADL` modulo 256 (rules R138, R139) -/
  | indexZeroPage (i : Index)
  /-- read `{0x00, PTR}`, discard; add `X` to `PTR` modulo 256 (rule R145) -/
  | indexPtr
  /-- read `{0x00, PTR}` into `ADL` (rules R145, R147) -/
  | readPtrLow
  /-- read `{0x00, (PTR + 1) mod 256}` into `ADH` (rules R145, R146) -/
  | readPtrHigh
  /-- read `{0x00, (PTR + 1) mod 256}` into `ADH`; add `Y` to `ADL` and keep the carry (rules R147, R148) -/
  | readPtrHighIndexed
  /-- read the operand into `DL`; `exec(DL)` -/
  | readExec (sp : Space)
  /-- read `{ADH, ADL}`: without a carry it is the operand and the instruction ends, with one the byte is
  discarded and `ADH` is corrected (rules R142, R147) -/
  | readOrFix
  /-- read `{ADH, ADL}`, discard; add the carry to `ADH` (rules R143, R144, R147) -/
  | readFix
  /-- write `val` (the write class) -/
  | writeVal (sp : Space)
  /-- read the operand into `DL` (the read-modify-write class, and the low pointer byte of `JMP (abs)`) -/
  | readDl (sp : Space)
  /-- write `DL` back unmodified (rule R141) -/
  | writeDl (sp : Space)
  /-- write `f(DL)` and the flags (rule R141) -/
  | writeModified (sp : Space)
  /-- read the offset into `DL`, increment `PC`; end if the condition is false (rule R151, T2) -/
  | branchTest
  /-- read `PC`, discard; the target, or its low byte only when the page differs (rule R151, T3) -/
  | branchTake
  /-- read `PC`, discard; correct the high byte (rule R151, T4) -/
  | branchFix
  /-- read `PC`, discard, `PC` not incremented (rules R152 to R156, and tick I2 of rule R425) -/
  | discardPc
  /-- read `PC`, discard, increment `PC` (rule R157, T2) -/
  | skipPc
  /-- write `val` at the stack, then decrement `S` (rule R152) -/
  | pushVal
  /-- read the stack, discard, `S` unchanged (rule R154, T3) -/
  | stackPeek
  /-- read the stack, discard, then increment `S` (rules R153, R155, R156) -/
  | stackNext
  /-- read the stack into `DL`; `exec(DL)` (rule R153) -/
  | pullExec
  /-- read the stack into the flags, then increment `S` (rule R156) -/
  | pullFlags
  /-- read the stack into `PCL`, then increment `S` (rules R155, R156) -/
  | pullPcl
  /-- read the stack into `PCH` (rules R155, R156) -/
  | pullPch
  /-- read `PC`, discard, increment `PC` (rule R155, T6) -/
  | returnNext
  /-- write `PCH` at the stack, then decrement `S` (rules R154, R157, R425) -/
  | pushPch
  /-- write `PCL` at the stack, then decrement `S` (rules R154, R157, R425) -/
  | pushPcl
  /-- write `Pbyte(b)` at the stack, then decrement `S` (rules R157, R425) -/
  | pushStatus (b : Bool)
  /-- read the stack, discard, then decrement `S` (rule R430 without stack writes) -/
  | stackSkip
  /-- read `PC` into `ADH`; `PC <- {ADH, ADL}` (rules R154, R158) -/
  | fetchAdhJump
  /-- read `{ADH, (ADL + 1) mod 256}`; `PC <- {byte, DL}` (rule R159) -/
  | jumpPointer
  /-- read the low vector byte into `PCL`; `I <- 1` (rules R157, R425) -/
  | vectorLow (k : SeqKind)
  /-- read the high vector byte into `PCH` (rules R157, R425) -/
  | vectorHigh (k : SeqKind)
  /-- tick I1: read `PC`, discard; clear the pending flag served (rules R425, R431, R432) -/
  | enter (k : SeqKind)
  deriving DecidableEq, Repr

end Sys2Proof
end

