-- ==== Sys2Proof/Config.lean ====
section
/-! DEFINITION. Sys2Proof/Config.lean: the configuration record of rule R7, as plain data, and the
parameters that are functions with no value in any source, as opaque constants. The record stands in
the state as the field `cfg`, which no step writes (notes/assumptions/2.md), so a statement about
every state is a statement about every configuration. -/

namespace Sys2Proof

/-! ## The register file (shared by the open functions of an undefined opcode and by the state) -/

/-- The six status flags (rule R26). -/
structure Flags where
  n : Bool
  v : Bool
  d : Bool
  i : Bool
  z : Bool
  c : Bool
  deriving DecidableEq, Repr, Inhabited

/-- The registers an instruction's own operation may read and write: `A`, `X`, `Y`, `S` (rules R20 to
R23) and the flags. -/
structure Regs where
  a : Byte
  x : Byte
  y : Byte
  s : Byte
  p : Flags
  deriving DecidableEq, Repr, Inhabited

/-! ## Bus and scheduler -/

/-- The three interrupt lines (rule R414). -/
inductive Line where
  | irq | nmi | reset
  deriving DecidableEq, Repr

/-- The widths of the parameter table (rule R7). The words of the model have the table's values, and a
configuration with others is ill-formed (notes/assumptions/38.md). -/
structure Widths where
  xlen : Nat
  pclen : Nat
  alen : Nat
  dlen : Nat
  deriving DecidableEq, Repr

/-- `VEC_NMI`, `VEC_RESET` and `VEC_IRQ`: the low vector addresses (rules R7, R424). -/
structure Vectors where
  nmi   : Addr
  reset : Addr
  irq   : Addr
  deriving DecidableEq, Repr

/-- The chips of a tick beside the core (rule R70). -/
inductive Chip where
  | vtg | mixer | ifChips | fdc
  deriving DecidableEq, Repr

/-- `TICK_ORDER` (rules R7, R70): the chips updated before the core, then the core, then the others. -/
structure TickOrder where
  before : List Chip
  after  : List Chip
  deriving DecidableEq, Repr

/-- `CLOCK_RATES` (rules R7, R71): a divider for each chip, those of the Interface Chips by their numbers. -/
structure ClockRates where
  core    : Nat
  vtg     : Nat
  mixer   : Nat
  ifChips : List Nat
  fdc     : Nat
  deriving DecidableEq, Repr

/-- `IRQ_POLL_POINT` (rules R7, R420): the instruction boundary, the only value the table allows. -/
inductive PollPoint where
  | boundary
  deriving DecidableEq, Repr

/-- Who owns an address range (rules R38, R63, R69): a writable or a read-only memory region, an internally
banked region or the register that selects its bank, or a chip. -/
inductive Owner where
  | ram | rom | bank (k : Nat) | bankSelect (k : Nat) | vtg | mixer | ifChip (k : Nat) | fdc
  deriving DecidableEq, Repr

/-- One entry `(lo, hi, owner)` of `ADDRESS_MAP` (rule R63). -/
structure MapEntry where
  lo    : Nat
  hi    : Nat
  owner : Owner
  deriving DecidableEq, Repr

/-- An internally banked memory region (rule R69, conflict C1 of spec/90_conflicts.md): how many banks it has,
whether they are writable, the images of read-only banks, and its bank register (notes/assumptions/29.md). -/
structure BankCfg where
  count    : Nat
  writable : Bool
  rom      : List (List (Nat × Byte))
  readable : Bool
  readOnly : Byte
  reset    : Byte
  deriving DecidableEq, Repr

/-! ## Undefined opcodes -/

/-- `ILLEGAL_ACTION` (rule R303). -/
inductive IllegalAction where
  | noOp | halt
  deriving DecidableEq, Repr

/-- One entry of `PSEUDO_TABLE` (rule R302) as plain data: a format, the ticks after T1, and an operation put
together from the operations of defined opcodes. `exec` applies those of `reads` in order, `f` is that
of `modify` followed by `exec`, `val` is the conjunction of those of `stores`, the branch condition
that of all of `tests`. With `free` the operation is the opaque one (notes/assumptions/15.md). -/
structure PseudoEntry where
  op     : Byte
  format : Format
  cycles : List Cycle
  reads  : List Instr
  modify : Option Instr
  stores : List Instr
  tests  : List Instr
  free   : Bool
  deriving DecidableEq, Repr

/-! ## Video -/

/-- The programmed fields of the timing generator (rule R311), and the field that may select the address policy
(rule R318). -/
inductive VtgField where
  | hTotal | vTotal | hSyncPos | vSyncPos | hSyncWidth | vSyncWidth | hDisplayed | vDisplayed | startAddr | linesPerRow
  | policy
  deriving DecidableEq, Repr

/-- The programmed register set (rules R311, R318). -/
structure VtgRegs where
  hTotal      : Nat
  vTotal      : Nat
  hSyncPos    : Nat
  vSyncPos    : Nat
  hSyncWidth  : Nat
  vSyncWidth  : Nat
  hDisplayed  : Nat
  vDisplayed  : Nat
  startAddr   : Nat
  linesPerRow : Nat
  policy      : Nat
  deriving DecidableEq, Repr, Inhabited

/-- A staged update of a programmed field (rule R323): the bits of `mask` take those of `value`. A whole
field is written by a mask that covers it, one byte of a wider field by a mask of eight bits (rule R462). -/
structure VtgUpdate where
  field : VtgField
  mask  : Nat
  value : Nat
  deriving DecidableEq, Repr

/-- `bits` bits of a register's byte, from bit `low`, stand in `field` from bit `shift`. -/
structure VtgPart where
  field : VtgField
  shift : Nat
  low   : Nat
  bits  : Nat
  deriving DecidableEq, Repr

/-- What a map may show as the counters of rule R324: `hcount` and `vcount`, which rule R310 calls so, and of the state
of rule R312 `char_phase`, `ma`, `row_base` and `ra`: DESIGN CHOICE, notes/assumptions/16.md. -/
inductive VtgCounter where
  | hcount | vcount | charPhase | ma | rowBase | ra
  deriving DecidableEq, Repr

/-- The values of the counters. -/
structure VtgCounters where
  hcount    : Nat
  vcount    : Nat
  charPhase : Nat
  ma        : Nat
  rowBase   : Nat
  ra        : Nat
  deriving DecidableEq, Repr, Inhabited

/-- The `bits` bits of a counter from bit `shift`, shown in a register's byte from bit `low`. -/
structure VtgShown where
  counter : VtgCounter
  shift   : Nat
  low     : Nat
  bits    : Nat
  deriving DecidableEq, Repr

/-- A bus register of the timing generator: the parts it is made of, the counters it shows, whether it can be
read (rule R324), and its read-only bits (rule R39). -/
structure VtgReg where
  parts    : List VtgPart
  readable : Bool
  readOnly : Byte
  counters : List VtgShown := []
  deriving DecidableEq, Repr

/-- What stands at a bus offset: the index register of an index and data pair, its data register, a
register of its own, or nothing (rule R322). The index register keeps all eight bits written and cannot be read:
DESIGN CHOICE, notes/assumptions/16.md. -/
inductive VtgPort where
  | index | data | direct (r : VtgReg) | absent
  deriving DecidableEq, Repr

/-- An address-increment policy (rule R318): the two instances the spec defines, or any other pair of
functions, of which a configuration may have several. -/
inductive AddrPolicy where
  | nonInterlaced | interlaced | free (k : Nat)
  deriving DecidableEq, Repr

/-- `ADDR_INCREMENT_POLICY` (rule R318): one policy, or one that the programmed field `policy` selects. -/
inductive PolicyChoice where
  | fixed (p : AddrPolicy)
  | programmed (table : List AddrPolicy)
  deriving DecidableEq, Repr

/-- `TICKS_PER_CHAR`, `VTG_REGMAP` and `ADDR_INCREMENT_POLICY` (rules R313, R318, R322). With `free` the
map is the opaque one. `widths` holds the width of every field, that of the start address being `MA_BITS`. -/
structure VtgCfg where
  ticksPerChar : Nat
  policy       : PolicyChoice
  free         : Bool
  ports        : List VtgPort
  regs         : List VtgReg
  widths       : VtgRegs
  reset        : VtgRegs
  deriving DecidableEq, Repr

/-- `MA_BITS` (rules R312, R325): the width of the start address. -/
abbrev VtgCfg.maBits (c : VtgCfg) : Nat :=
  c.widths.startAddr

/-- An RGB triple (rule R333). -/
structure Rgb where
  r : Nat
  g : Nat
  b : Nat
  deriving DecidableEq, Repr, Inhabited

/-- One entry of `MODE_TABLE` (rule R333). -/
structure Mode where
  bpp      : Nat
  teletext : Bool
  deriving DecidableEq, Repr, Inhabited

/-- The bus-visible registers of the Mixer (rules R330, R334): the mode, the palette, and the index of
the palette entry that the default map's component registers reach. -/
structure MixerRegs where
  mode    : Nat
  palette : List Rgb
  index   : Nat
  deriving DecidableEq, Repr, Inhabited

/-- A component of a palette entry. -/
inductive Component where
  | red | green | blue
  deriving DecidableEq, Repr

/-- What stands at a bus offset of the Mixer (`MIXER_REGMAP`, rule R334): each register with whether it can be
read and its read-only bits. -/
inductive MixerPort where
  | mode (readable : Bool) (readOnly : Byte)
  | paletteIndex (readable : Bool) (readOnly : Byte)
  | paletteComponent (k : Component) (readable : Bool) (readOnly : Byte)
  | absent
  deriving DecidableEq, Repr

/-- `UNPACK` (rule R335): the default packing, or any other. -/
inductive Packing where
  | packed | free
  deriving DecidableEq, Repr

/-- `VIDEO_ADDR_MAP` (rule R331): the default mapping, or any other. -/
inductive VideoMap where
  | identity | free
  deriving DecidableEq, Repr

/-- `MODE_TABLE` (with `UNPACK`, `MIXER_REGMAP`, `RGB_BITS`), `PALETTE` and `VIDEO_ADDR_MAP`. -/
structure MixerCfg where
  modes    : List Mode
  packing  : Packing
  rgbBits  : Nat
  free     : Bool
  ports    : List MixerPort
  videoMap : VideoMap
  resetRegs : MixerRegs
  deriving DecidableEq, Repr

/-- `PAL_BITS` (rule R333): the largest `bpp`. -/
def MixerCfg.palBits (c : MixerCfg) : Nat :=
  c.modes.foldl (fun n m => max n m.bpp) 0

/-- How many logical colours the palette has (rule R333). -/
def MixerCfg.paletteSize (c : MixerCfg) : Nat :=
  2 ^ c.palBits

/-- A teletext colour, 0 to 7 (rules R340, R341). -/
abbrev TtxColour := Fin 8

/-- The action of a teletext control code (rule R344). -/
inductive TtxAction where
  | setTextColour (c : TtxColour) | setGraphicsColour (c : TtxColour) | normalHeight | doubleHeight | blackBackground | newBackground | nothing
  deriving DecidableEq, Repr

/-- When a control code acts (rule R344). -/
inductive TtxTiming where
  | atOnce | after
  deriving DecidableEq, Repr

/-- A row of a character's glyph (`TTX_GLYPH_ROM`, rule R341), leftmost pixel first. -/
structure GlyphRow where
  code : Nat
  row  : Nat
  bits : List Bool
  deriving DecidableEq, Repr

/-- A row of `TTX_CONTROL` (rule R341). -/
structure ControlCode where
  code   : Nat
  action : TtxAction
  timing : TtxTiming
  deriving DecidableEq, Repr

/-- The teletext parameters (rule R341). A glyph row, a control code or a colour that the tables do not
list is blank, `None` (`After`) and black. The components of a colour of `TTX_PALETTE` have no bound, since
`RGB_BITS` is stated for the Mixer's palette only: DESIGN CHOICE, notes/assumptions/44.md. -/
structure TtxCfg where
  glyphW    : Nat
  glyphH    : Nat
  glyphs    : List GlyphRow
  control   : List ControlCode
  palette   : List Rgb
  fgDefault : TtxColour
  bgDefault : TtxColour
  deriving DecidableEq, Repr

/-! ## Interface chips -/

/-- A port of a parallel chip (rule R352). -/
inductive Port where
  | a | b
  deriving DecidableEq, Repr

/-- External input events (rule R358). -/
inductive IfEvent where
  | pinLevel (p : Port) (mask value : Byte)
  | strobe (p : Port)
  | serialRx (b : Byte)
  deriving DecidableEq, Repr

/-- Registers of a parallel chip (rule R351). -/
inductive ParReg where
  | data (p : Port) | ddr (p : Port) | status | control
  deriving DecidableEq, Repr

/-- Registers of a serial chip (rule R351). -/
inductive SerReg where
  | status | control | rxData | txData
  deriving DecidableEq, Repr

/-- The layout of a parallel chip (`IFCHIP_REGMAP`, rule R351): the register each offset reads and
writes (offsets repeat), the bit positions of rule R354, read-only bits (rule R361), and reset values (rule R7);
a register without one has that of rule R365. -/
structure ParLayout where
  reads    : List (Option ParReg)
  writes   : List (Option ParReg)
  hsA      : Nat
  hsB      : Nat
  irq      : Nat
  ieA      : Nat
  ieB      : Nat
  readOnly : List (ParReg × Byte)
  resets   : List (ParReg × Byte) := []
  deriving DecidableEq, Repr

/-- The layout of a serial chip (rules R7, R351, R357). -/
structure SerLayout where
  reads    : List (Option SerReg)
  writes   : List (Option SerReg)
  rxFull   : Nat
  txEmpty  : Nat
  overrun  : Nat
  irq      : Nat
  rxIe     : Nat
  txIe     : Nat
  readOnly : List (SerReg × Byte)
  resets   : List (SerReg × Byte) := []
  deriving DecidableEq, Repr

/-- The kind of an Interface Chip, with its layout (rule R350). -/
inductive IfKind where
  | parallel (l : ParLayout)
  | serial (l : SerLayout)
  deriving DecidableEq, Repr

/-- One Interface Chip: its kind and the line its interrupt output drives (rule R360). -/
structure IfChipCfg where
  kind : IfKind
  line : Line
  deriving DecidableEq, Repr

/-- A signal of a chip of the block that configuration may wire to an Interface Chip (rule R358): an output of
the timing generator, the interrupt output or the data request of the floppy controller, the interrupt output
of an Interface Chip, a pin that a parallel chip drives. -/
inductive Signal where
  | hsync | vsync | displayEnable | lineStart | frameStart
  | fdcIrq | fdcDrq
  | ifIrq (chip : Nat)
  | portPin (chip : Nat) (p : Port) (bit : Nat)
  deriving DecidableEq, Repr

/-- A wire: when `signal` has changed to `level`, `event` is queued for `chip` (rule R358). -/
structure Wire where
  signal : Signal
  level  : Bool
  chip   : Nat
  event  : IfEvent
  deriving DecidableEq, Repr

/-! ## Floppy controller and disk store -/

/-- Registers of the floppy controller (rule R375). -/
inductive FdcReg where
  | status | command | result | track | sector | data | drive
  deriving DecidableEq, Repr

/-- The five commands (rule R372). -/
inductive FdcKind where
  | seek | read | write | format | verify
  deriving DecidableEq, Repr

/-- The value of the `RESULT` register (rule R372). -/
inductive FdcResult where
  | none | ok | seekFault | crcError | notFound | notReady | badCommand
  deriving DecidableEq, Repr

/-- The code of each result (rules R371, R374). -/
structure FdcResultCodes where
  none       : Byte
  ok         : Byte
  seekFault  : Byte
  crcError   : Byte
  notFound   : Byte
  notReady   : Byte
  badCommand : Byte
  deriving DecidableEq, Repr

/-- `FDC_REGMAP` (rules R371, R374): registers, command codes, status bit positions and result codes. -/
structure FdcLayout where
  reads     : List (Option FdcReg)
  writes    : List (Option FdcReg)
  codes     : List (Byte × FdcKind)
  busy      : Nat
  rejected  : Nat
  lostData  : Nat
  error     : Nat
  done      : Nat
  drq       : Nat
  irq       : Nat
  results   : FdcResultCodes
  formatFill : Byte
  deriving DecidableEq, Repr

/-- The parameters of the floppy controller (rules R371, R379, R381, R385, R388). -/
structure FdcCfg where
  layout     : FdcLayout
  seekDelay  : Nat
  byteTicks  : Nat
  maxRetries : Nat
  line       : Line
  errorIrq   : Bool
  drqIrq     : Bool
  deriving DecidableEq, Repr

/-- The geometry of one drive: `TRACKS(d)` and `SECTORS(d)` (rule R400). -/
structure Geometry where
  tracks  : Nat
  sectors : Nat
  deriving DecidableEq, Repr

/-- `CRC_FN` (rule R404): any function, the reference CRC-16-CCITT, or the toy sum of
spec/95_test_vectors.md section 6.6. -/
inductive CrcFn where
  | free | ccitt | byteSum
  deriving DecidableEq, Repr

/-- A sector: its payload and the stored CRC (rule R400). -/
structure Sector where
  payload : List Byte
  crc     : Nat
  deriving DecidableEq, Repr

/-- A disk image: tracks of sectors (rule R400). -/
abbrev Image := List (List Sector)

/-- The disk store's parameters, and the image each drive holds at power-on (rules R400, R404, R408). -/
structure DiskCfg where
  geometry       : List Geometry
  bytesPerSector : Nat
  crcFn          : CrcFn
  crcBits        : Nat
  images         : List (Option Image)
  deriving DecidableEq, Repr

/-- The configuration record (rule R7). `rom` is the content of the read-only regions (rule R38), in the
form of a memory. -/
structure Config where
  widths           : Widths
  vectors          : Vectors
  stackBase        : Addr
  tickOrder        : TickOrder
  clockRates       : ClockRates
  pollPoint        : PollPoint
  addressMap       : List MapEntry
  rom              : List (Nat × Byte)
  banks            : List BankCfg
  openBus          : Byte
  pseudoOpcodes    : List Byte
  pseudoTable      : List PseudoEntry
  illegalAction    : IllegalAction
  resetStackWrites : Bool
  vtg              : VtgCfg
  mixer            : MixerCfg
  ttx              : TtxCfg
  ifChips          : List IfChipCfg
  serialTxTicks    : Nat
  eventQueueDepth  : Nat
  wires            : List Wire
  fdc              : FdcCfg
  disk             : DiskCfg
  deriving DecidableEq, Repr

/-! ## Parameters that are functions and have no value in any source

Each is an arbitrary function: no proof can see what it computes (notes/assumptions/14.md). -/

/-- `CRC_FN` (rule R404). -/
opaque Config.openCrc : List Byte → Nat

/-- `VIDEO_ADDR_MAP(ma, ra, char_phase, mode)` (rule R331). -/
opaque Config.openVideoMap : (ma ra charPhase mode : Nat) → List Addr

/-- `UNPACK(bpp, b)` (rule R335): the logical colour of each pixel. -/
opaque Config.openUnpack : (bpp : Nat) → Byte → (pixel : Nat) → Nat

/-- `frame_start(reg, field)` of the policy `k` (rule R318). -/
opaque Config.openFrameStart : (k : Nat) → VtgRegs → (field : Bool) → Nat × Nat

/-- `next_line(reg, row_base, ra, field)` of the policy `k` (rule R318). -/
opaque Config.openNextLine : (k : Nat) → VtgRegs → (rowBase ra : Nat) → (field : Bool) → Nat × Nat

/-- `VTG_REGMAP`: what a write at an offset stages, for each value of the map's private index (rule R322). -/
opaque Config.openVtgWrite : (offset index : Nat) → Byte → List VtgUpdate

/-- `VTG_REGMAP`: what a write at an offset makes of the map's private index (rule R322). -/
opaque Config.openVtgIndex : (offset index : Nat) → Byte → Nat

/-- `VTG_REGMAP`: the read-only bits of the register at an offset (rules R39, R322). -/
opaque Config.openVtgReadOnly : (offset index : Nat) → Byte

/-- `VTG_REGMAP`: what a read returns, from the active registers and the counters; nothing where the map leaves
the offset unreadable (rule R324). -/
opaque Config.openVtgRead : (offset index : Nat) → VtgRegs → VtgCounters → Option Byte

/-- `MIXER_REGMAP`: what a write does (rule R334). -/
opaque Config.openMixerWrite : (offset : Nat) → Byte → MixerRegs → MixerRegs

/-- `MIXER_REGMAP`: the read-only bits of the register at an offset (rules R39, R334). -/
opaque Config.openMixerReadOnly : (offset : Nat) → Byte

/-- `MIXER_REGMAP`: what a read returns; nothing for a write-only register (rule R334). -/
opaque Config.openMixerRead : (offset : Nat) → MixerRegs → Option Byte

/-- The entry of `MODE_TABLE` that a `mode` value beyond the table selects: the spec states none
(notes/assumptions/21.md). -/
opaque Config.openMode : Nat → Nat

/-- The colour of a logical colour that the palette has no entry for: the spec states none
(notes/assumptions/21.md). -/
opaque Config.openColour : Nat → Rgb

/-- `PSEUDO_TABLE(op)`: an arbitrary `exec` (rule R302). -/
opaque Config.openPseudoExec : (op : Byte) → Regs → Byte → Regs

/-- `PSEUDO_TABLE(op)`: an arbitrary `val` (rule R302). -/
opaque Config.openPseudoVal : (op : Byte) → Regs → Byte

/-- `PSEUDO_TABLE(op)`: an arbitrary `f`, with the registers and flags it leaves (rule R302). -/
opaque Config.openPseudoModify : (op : Byte) → Regs → Byte → Byte × Regs

/-- `PSEUDO_TABLE(op)`: an arbitrary branch condition (rule R302). -/
opaque Config.openPseudoTest : (op : Byte) → Regs → Bool

/-! ## The configuration of the machine after reset

Every value below is OPEN in the spec unless its rule is named or it stands in the table of rule R7;
notes/assumptions/2.md and 13.md. -/

/-- The default layout of a parallel chip (rules R351, R354). -/
def ParLayout.default : ParLayout where
  reads := [some (.data .a), some (.data .b), some (.ddr .a), some (.ddr .b), some .status, some .control, none, none]
  writes := [some (.data .a), some (.data .b), some (.ddr .a), some (.ddr .b), some .status, some .control, none, none]
  hsA := 0
  hsB := 1
  irq := 7
  ieA := 0
  ieB := 1
  readOnly := []

/-- The default layout of a serial chip (rules R351, R357). -/
def SerLayout.default : SerLayout where
  reads := [some .status, some .rxData]
  writes := [some .control, some .txData]
  rxFull := 0
  txEmpty := 1
  overrun := 5
  irq := 7
  rxIe := 7
  txIe := 5
  readOnly := []

/-- The default layout of the floppy controller (rules R371, R374). -/
def FdcLayout.default : FdcLayout where
  reads := [some .status, some .result, some .track, some .sector, some .data, some .drive, none, none]
  writes := [some .command, none, some .track, some .sector, some .data, some .drive, none, none]
  codes := [(0x01#8, .seek), (0x02#8, .read), (0x03#8, .write), (0x04#8, .format), (0x05#8, .verify)]
  busy := 7
  rejected := 6
  lostData := 5
  error := 4
  done := 3
  drq := 2
  irq := 0
  results := ⟨0x00#8, 0x00#8, 0x01#8, 0x02#8, 0x03#8, 0x04#8, 0x05#8⟩
  formatFill := 0xE5#8

/-- A timing-generator register that holds one byte of a field. -/
def VtgReg.byteOf (f : VtgField) (shift : Nat) : VtgReg :=
  { parts := [⟨f, shift, 0, 8⟩], readable := true, readOnly := 0#8 }

/-- The timing generator after reset: an index and data pair over one register for each byte of a field. -/
def VtgCfg.default : VtgCfg where
  ticksPerChar := 1
  policy := .fixed .nonInterlaced
  free := false
  ports := [.index, .data]
  regs := [.byteOf .hTotal 0, .byteOf .hDisplayed 0, .byteOf .hSyncPos 0, .byteOf .hSyncWidth 0,
    .byteOf .vTotal 0, .byteOf .vTotal 8, .byteOf .vDisplayed 0, .byteOf .vDisplayed 8,
    .byteOf .vSyncPos 0, .byteOf .vSyncPos 8, .byteOf .vSyncWidth 0, .byteOf .linesPerRow 0,
    .byteOf .startAddr 0, .byteOf .startAddr 8]
  widths := {
    hTotal := 8, vTotal := 10, hSyncPos := 8, vSyncPos := 10, hSyncWidth := 8, vSyncWidth := 8, hDisplayed := 8,
    vDisplayed := 10, startAddr := 14, linesPerRow := 8, policy := 0 }
  reset := ⟨0, 0, 0, 0, 0, 0, 0, 0, 0, 0, 0⟩

/-- The Mixer after reset. -/
def MixerCfg.default : MixerCfg where
  modes := [⟨1, false⟩, ⟨2, false⟩, ⟨4, false⟩, ⟨1, true⟩]
  packing := .packed
  rgbBits := 1
  free := false
  ports := [.mode true 0xFC#8, .paletteIndex true 0#8, .paletteComponent .red true 0#8,
    .paletteComponent .green true 0#8, .paletteComponent .blue true 0#8]
  videoMap := .identity
  resetRegs := ⟨0, List.replicate 16 ⟨0, 0, 0⟩, 0⟩

/-- The teletext parameters after reset: the reference cell, colours and defaults of rule R341, with an
empty character generator and no control codes. -/
def TtxCfg.default : TtxCfg where
  glyphW := 6
  glyphH := 10
  glyphs := []
  control := []
  palette := [⟨0, 0, 0⟩, ⟨1, 0, 0⟩, ⟨0, 1, 0⟩, ⟨1, 1, 0⟩, ⟨0, 0, 1⟩, ⟨1, 0, 1⟩, ⟨0, 1, 1⟩, ⟨1, 1, 1⟩]
  fgDefault := 7
  bgDefault := 0

/-- The floppy controller after reset. -/
def FdcCfg.default : FdcCfg where
  layout := .default
  seekDelay := 5
  byteTicks := 3
  maxRetries := 2
  line := .nmi
  errorIrq := true
  drqIrq := false

/-- The disk store after reset: two drives without an image. -/
def DiskCfg.default : DiskCfg where
  geometry := [⟨80, 10⟩, ⟨80, 10⟩]
  bytesPerSector := 256
  crcFn := .free
  crcBits := 16
  images := [none, none]

/-- The configuration of the machine after reset: RAM everywhere but for one page that holds the chips,
the rest of that page unmapped (notes/assumptions/13.md). -/
def Config.default : Config where
  widths := ⟨8, 16, 16, 8⟩
  vectors := ⟨0xFFFA#16, 0xFFFC#16, 0xFFFE#16⟩
  stackBase := 0x0100#16
  tickOrder := ⟨[], [.vtg, .mixer, .ifChips, .fdc]⟩
  clockRates := ⟨1, 1, 1, [1, 1], 1⟩
  pollPoint := .boundary
  addressMap := [⟨0x0000, 0xFDFF, .ram⟩, ⟨0xFE00, 0xFE01, .vtg⟩, ⟨0xFE08, 0xFE09, .ifChip 1⟩, ⟨0xFE20, 0xFE24, .mixer⟩,
    ⟨0xFE40, 0xFE47, .ifChip 0⟩, ⟨0xFE80, 0xFE87, .fdc⟩, ⟨0xFF00, 0xFFFF, .ram⟩]
  rom := []
  banks := []
  openBus := 0xA5#8
  pseudoOpcodes := []
  pseudoTable := []
  illegalAction := .noOp
  resetStackWrites := false
  vtg := .default
  mixer := .default
  ttx := .default
  ifChips := [⟨.parallel .default, .irq⟩, ⟨.serial .default, .irq⟩]
  serialTxTicks := 16
  eventQueueDepth := 16
  wires := []
  fdc := .default
  disk := .default

end Sys2Proof
end

