-- ==== Sys2Proof/WellFormed.lean ====
section
/-! DEFINITION. Sys2Proof/WellFormed.lean: which instructions in memory and which configurations are well
formed. The step refuses a configuration that is not (rules R63 and R302, entries U1 and U11 of
spec/93_implementation_defined.md). -/

namespace Sys2Proof

/-- An instruction in memory has exactly the operand bytes of its format (rule R102). -/
def Code.fits (format : Instr → Format) (c : Code) : Bool :=
  c.operands.length == (format c.instr).operandLength

/-- An instruction in memory is well formed where no undefined opcode has a format of its own. -/
def Code.wellFormed (c : Code) : Bool :=
  c.fits Instr.format

/-- An entry of `ADDRESS_MAP` lies in the address space and is not empty (rules R61, R63). -/
def MapEntry.inRange (e : MapEntry) : Bool :=
  e.lo ≤ e.hi && e.hi < 65536

/-- Two entries of `ADDRESS_MAP` share no address (rule R63). -/
def MapEntry.disjoint (e f : MapEntry) : Bool :=
  e.hi < f.lo || f.hi < e.lo

/-- The ranges are pairwise disjoint (rule R63: overlapping ranges are ill-formed). -/
def disjointMap : List MapEntry → Bool
  | [] => true
  | e :: es => es.all e.disjoint && disjointMap es

/-- Every chip and every banked region an entry names exists (rules R63, R69, R350). -/
def Config.ownersExist (c : Config) : Bool :=
  c.addressMap.all fun e => match e.owner with
    | .ifChip k => decide (k < c.ifChips.length)
    | .bank k => decide (k < c.banks.length)
    | .bankSelect k => decide (k < c.banks.length)
    | _ => true

/-- The widths are those of the parameter table, which the words of the model have (rules R7, R20 to R24, R60). -/
def Config.widthsLegal (c : Config) : Bool :=
  c.widths == ⟨8, 16, 16, 8⟩

/-- Every chip is updated once in a tick, and every chip has a divider, at least 1 (rules R13, R70, R71). -/
def Config.scheduleLegal (c : Config) : Bool :=
  let order := c.tickOrder.before ++ c.tickOrder.after
  let r := c.clockRates
  order.length == 4 && [Chip.vtg, .mixer, .ifChips, .fdc].all order.contains &&
    r.ifChips.length == c.ifChips.length &&
    ([r.core, r.vtg, r.mixer, r.fdc] ++ r.ifChips).all fun k => decide (0 < k)

/-- How many operand bytes a row reads (rule R102). -/
def Cycle.operandBytes : Cycle → Nat
  | .immediate | .fetchAdl | .fetchAdh | .fetchAdhIndexed _ | .fetchPtr | .branchTest | .fetchAdhJump => 1
  | _ => 0

/-- Tick I1 of an interrupt sequence, which no instruction has (rules R130, R425). -/
def Cycle.isEntry : Cycle → Bool
  | .enter _ => true
  | _ => false

/-- An entry of `PSEUDO_TABLE` is a complete instruction (rule R302): one of the thirteen formats, and a tick table
of instruction rows that reads the operand bytes of that format. That its rows may read a latch which none before them
has written, and then find what an earlier instruction left there, is a DESIGN CHOICE (notes/assumptions/15.md), and so is that the table
may have no tick after T1, or carry `exec` in any of its ticks, in several or in none. -/
def PseudoEntry.complete (e : PseudoEntry) : Bool :=
  e.format != .undefined && e.cycles.all (fun c => !c.isEntry) &&
    (e.cycles.map Cycle.operandBytes).sum == e.format.operandLength

/-- Every opcode of class `Pseudo` has its entry in `PSEUDO_TABLE`, a complete instruction (rule R302). -/
def Config.pseudoComplete (c : Config) : Bool :=
  c.pseudoOpcodes.all fun op => match c.pseudoTable.find? fun e => e.op == op with
    | some e => e.complete
    | none => false

/-- A register set fits its widths (rules R322, R325). -/
def VtgRegs.fits (w r : VtgRegs) : Bool :=
  decide (r.hTotal < 2 ^ w.hTotal) && decide (r.vTotal < 2 ^ w.vTotal) && decide (r.hSyncPos < 2 ^ w.hSyncPos) &&
    decide (r.vSyncPos < 2 ^ w.vSyncPos) && decide (r.hSyncWidth < 2 ^ w.hSyncWidth) &&
    decide (r.vSyncWidth < 2 ^ w.vSyncWidth) && decide (r.hDisplayed < 2 ^ w.hDisplayed) &&
    decide (r.vDisplayed < 2 ^ w.vDisplayed) && decide (r.startAddr < 2 ^ w.startAddr) &&
    decide (r.linesPerRow < 2 ^ w.linesPerRow) && decide (r.policy < 2 ^ w.policy)

/-- The reset values fit their fields, and a programmed policy has an entry for every value of its field (rules
R318, R322). -/
def VtgCfg.wellFormed (c : VtgCfg) : Bool :=
  c.widths.fits c.reset && match c.policy with
    | .fixed _ => true
    | .programmed table => table.length == 2 ^ c.widths.policy

/-- The components of a colour have `RGB_BITS` bits (rule R333). -/
def Rgb.fits (bits : Nat) (p : Rgb) : Bool :=
  decide (p.r < 2 ^ bits) && decide (p.g < 2 ^ bits) && decide (p.b < 2 ^ bits)

/-- A palette has an entry for every logical colour and its components have `RGB_BITS` bits; the index names one of
its entries (rule R333). -/
def MixerRegs.fits (c : MixerCfg) (r : MixerRegs) : Bool :=
  r.palette.length == c.paletteSize && r.palette.all (Rgb.fits c.rgbBits) && decide (r.index < c.paletteSize)

/-- There is a mode, every `bpp` divides 8, and the power-on registers are those of the palette's size (rule R333). -/
def MixerCfg.wellFormed (c : MixerCfg) : Bool :=
  !c.modes.isEmpty && c.modes.all (fun m => decide (m.bpp ∣ 8)) && c.resetRegs.fits c

/-- The naturals that must be at least 1 are (rules R69, R313, R359, R381). -/
def Config.countsLegal (c : Config) : Bool :=
  0 < c.vtg.ticksPerChar && 0 < c.eventQueueDepth && 0 < c.fdc.byteTicks && c.banks.all fun b => decide (0 < b.count)

/-- A sector of a drive: a payload of `BYTES_PER_SECTOR` bytes and a CRC of `CRC_BITS` bits (rule R400). -/
def DiskCfg.sectorFits (c : DiskCfg) (s : Sector) : Bool :=
  s.payload.length == c.bytesPerSector && decide (s.crc < 2 ^ c.crcBits)

/-- An image has the geometry of its drive, and its sectors fit (rule R400). -/
def DiskCfg.fits (c : DiskCfg) (g : Geometry) (i : Image) : Bool :=
  i.length == g.tracks && i.all fun t => t.length == g.sectors && t.all c.sectorFits

/-- Each drive has its power-on image or none, and the images fit (rules R400, R408). -/
def DiskCfg.wellFormed (c : DiskCfg) : Bool :=
  c.images.length == c.geometry.length &&
    (c.images.zip c.geometry).all fun p => match p.1 with
      | none => true
      | some i => c.fits p.2 i

/-- A well-formed configuration. The model runs no other. -/
def Config.wellFormed (c : Config) : Bool :=
  c.widthsLegal && c.scheduleLegal && c.addressMap.all MapEntry.inRange && disjointMap c.addressMap && c.ownersExist &&
    c.pseudoComplete && c.countsLegal && c.vtg.wellFormed && c.mixer.wellFormed && c.disk.wellFormed

end Sys2Proof
end

