-- ==== Sys2Proof/Decode.lean ====
section
/-! DEFINITION. Sys2Proof/Decode.lean: decoding and encoding. The opcode byte is looked up whole in the table
of rule R110 (rules R101, R103), so the decoder is total on every opcode byte; an instruction in memory
is its opcode byte and the operand bytes its format asks for, lowest address first (rules R100, R102).
A byte sequence that ends inside an instruction is rejected by name. -/

namespace Sys2Proof

/-- Why bytes are not an instruction: nothing is there, or the operand bytes are missing. -/
inductive DecodeError where
  | noOpcode
  | operandsMissing (i : Instr)
  deriving DecidableEq, Repr

/-- The opcode map of rule R110, one list for each high nibble, in the order of the low nibble; undefined
opcodes (rule R115) stand in it under their own names. -/
def opcodeMap : List (List Instr) := [
  [.brk, .oraIzx, .und02, .und03, .und04, .oraZp, .aslZp, .und07, .php, .oraImm, .aslAcc, .und0B, .und0C, .oraAbs, .aslAbs, .und0F],
  [.bpl, .oraIzy, .und12, .und13, .und14, .oraZpx, .aslZpx, .und17, .clc, .oraAby, .und1A, .und1B, .und1C, .oraAbx, .aslAbx, .und1F],
  [.jsr, .andIzx, .und22, .und23, .bitZp, .andZp, .rolZp, .und27, .plp, .andImm, .rolAcc, .und2B, .bitAbs, .andAbs, .rolAbs, .und2F],
  [.bmi, .andIzy, .und32, .und33, .und34, .andZpx, .rolZpx, .und37, .sec, .andAby, .und3A, .und3B, .und3C, .andAbx, .rolAbx, .und3F],
  [.rti, .eorIzx, .und42, .und43, .und44, .eorZp, .lsrZp, .und47, .pha, .eorImm, .lsrAcc, .und4B, .jmpAbs, .eorAbs, .lsrAbs, .und4F],
  [.bvc, .eorIzy, .und52, .und53, .und54, .eorZpx, .lsrZpx, .und57, .cli, .eorAby, .und5A, .und5B, .und5C, .eorAbx, .lsrAbx, .und5F],
  [.rts, .adcIzx, .und62, .und63, .und64, .adcZp, .rorZp, .und67, .pla, .adcImm, .rorAcc, .und6B, .jmpInd, .adcAbs, .rorAbs, .und6F],
  [.bvs, .adcIzy, .und72, .und73, .und74, .adcZpx, .rorZpx, .und77, .sei, .adcAby, .und7A, .und7B, .und7C, .adcAbx, .rorAbx, .und7F],
  [.und80, .staIzx, .und82, .und83, .styZp, .staZp, .stxZp, .und87, .dey, .und89, .txa, .und8B, .styAbs, .staAbs, .stxAbs, .und8F],
  [.bcc, .staIzy, .und92, .und93, .styZpx, .staZpx, .stxZpy, .und97, .tya, .staAby, .txs, .und9B, .und9C, .staAbx, .und9E, .und9F],
  [.ldyImm, .ldaIzx, .ldxImm, .undA3, .ldyZp, .ldaZp, .ldxZp, .undA7, .tay, .ldaImm, .tax, .undAB, .ldyAbs, .ldaAbs, .ldxAbs, .undAF],
  [.bcs, .ldaIzy, .undB2, .undB3, .ldyZpx, .ldaZpx, .ldxZpy, .undB7, .clv, .ldaAby, .tsx, .undBB, .ldyAbx, .ldaAbx, .ldxAby, .undBF],
  [.cpyImm, .cmpIzx, .undC2, .undC3, .cpyZp, .cmpZp, .decZp, .undC7, .iny, .cmpImm, .dex, .undCB, .cpyAbs, .cmpAbs, .decAbs, .undCF],
  [.bne, .cmpIzy, .undD2, .undD3, .undD4, .cmpZpx, .decZpx, .undD7, .cld, .cmpAby, .undDA, .undDB, .undDC, .cmpAbx, .decAbx, .undDF],
  [.cpxImm, .sbcIzx, .undE2, .undE3, .cpxZp, .sbcZp, .incZp, .undE7, .inx, .sbcImm, .nop, .undEB, .cpxAbs, .sbcAbs, .incAbs, .undEF],
  [.beq, .sbcIzy, .undF2, .undF3, .undF4, .sbcZpx, .incZpx, .undF7, .sed, .sbcAby, .undFA, .undFB, .undFC, .sbcAbx, .incAbx, .undFF]]

/-- Decode of one opcode byte (rule R103), total: the map has an entry for each of the 256 bytes. -/
def decodeOpcode (b : Byte) : Instr :=
  (opcodeMap.getD (b.toNat / 16) []).getD (b.toNat % 16) .nop

/-- Decode of the instruction at the head of a byte sequence, with what follows it, the formats being given. -/
def decodeAs (format : Instr → Format) : List Byte → Except DecodeError (Code × List Byte)
  | [] => .error .noOpcode
  | b :: bs =>
    let i := decodeOpcode b
    let n := (format i).operandLength
    if bs.length < n then .error (.operandsMissing i) else .ok (⟨i, bs.take n⟩, bs.drop n)

/-- Decode by the formats of the opcode table (rule R110), an undefined opcode being one byte (rule R304). -/
def decode (bs : List Byte) : Except DecodeError (Code × List Byte) :=
  decodeAs Instr.format bs

/-- The opcode byte of each instruction (the `match` column of the opcode table, rule R110). -/
def encodeOpcode : Instr → Byte
  | .brk => 0x00#8
  | .oraIzx => 0x01#8
  | .und02 => 0x02#8
  | .und03 => 0x03#8
  | .und04 => 0x04#8
  | .oraZp => 0x05#8
  | .aslZp => 0x06#8
  | .und07 => 0x07#8
  | .php => 0x08#8
  | .oraImm => 0x09#8
  | .aslAcc => 0x0A#8
  | .und0B => 0x0B#8
  | .und0C => 0x0C#8
  | .oraAbs => 0x0D#8
  | .aslAbs => 0x0E#8
  | .und0F => 0x0F#8
  | .bpl => 0x10#8
  | .oraIzy => 0x11#8
  | .und12 => 0x12#8
  | .und13 => 0x13#8
  | .und14 => 0x14#8
  | .oraZpx => 0x15#8
  | .aslZpx => 0x16#8
  | .und17 => 0x17#8
  | .clc => 0x18#8
  | .oraAby => 0x19#8
  | .und1A => 0x1A#8
  | .und1B => 0x1B#8
  | .und1C => 0x1C#8
  | .oraAbx => 0x1D#8
  | .aslAbx => 0x1E#8
  | .und1F => 0x1F#8
  | .jsr => 0x20#8
  | .andIzx => 0x21#8
  | .und22 => 0x22#8
  | .und23 => 0x23#8
  | .bitZp => 0x24#8
  | .andZp => 0x25#8
  | .rolZp => 0x26#8
  | .und27 => 0x27#8
  | .plp => 0x28#8
  | .andImm => 0x29#8
  | .rolAcc => 0x2A#8
  | .und2B => 0x2B#8
  | .bitAbs => 0x2C#8
  | .andAbs => 0x2D#8
  | .rolAbs => 0x2E#8
  | .und2F => 0x2F#8
  | .bmi => 0x30#8
  | .andIzy => 0x31#8
  | .und32 => 0x32#8
  | .und33 => 0x33#8
  | .und34 => 0x34#8
  | .andZpx => 0x35#8
  | .rolZpx => 0x36#8
  | .und37 => 0x37#8
  | .sec => 0x38#8
  | .andAby => 0x39#8
  | .und3A => 0x3A#8
  | .und3B => 0x3B#8
  | .und3C => 0x3C#8
  | .andAbx => 0x3D#8
  | .rolAbx => 0x3E#8
  | .und3F => 0x3F#8
  | .rti => 0x40#8
  | .eorIzx => 0x41#8
  | .und42 => 0x42#8
  | .und43 => 0x43#8
  | .und44 => 0x44#8
  | .eorZp => 0x45#8
  | .lsrZp => 0x46#8
  | .und47 => 0x47#8
  | .pha => 0x48#8
  | .eorImm => 0x49#8
  | .lsrAcc => 0x4A#8
  | .und4B => 0x4B#8
  | .jmpAbs => 0x4C#8
  | .eorAbs => 0x4D#8
  | .lsrAbs => 0x4E#8
  | .und4F => 0x4F#8
  | .bvc => 0x50#8
  | .eorIzy => 0x51#8
  | .und52 => 0x52#8
  | .und53 => 0x53#8
  | .und54 => 0x54#8
  | .eorZpx => 0x55#8
  | .lsrZpx => 0x56#8
  | .und57 => 0x57#8
  | .cli => 0x58#8
  | .eorAby => 0x59#8
  | .und5A => 0x5A#8
  | .und5B => 0x5B#8
  | .und5C => 0x5C#8
  | .eorAbx => 0x5D#8
  | .lsrAbx => 0x5E#8
  | .und5F => 0x5F#8
  | .rts => 0x60#8
  | .adcIzx => 0x61#8
  | .und62 => 0x62#8
  | .und63 => 0x63#8
  | .und64 => 0x64#8
  | .adcZp => 0x65#8
  | .rorZp => 0x66#8
  | .und67 => 0x67#8
  | .pla => 0x68#8
  | .adcImm => 0x69#8
  | .rorAcc => 0x6A#8
  | .und6B => 0x6B#8
  | .jmpInd => 0x6C#8
  | .adcAbs => 0x6D#8
  | .rorAbs => 0x6E#8
  | .und6F => 0x6F#8
  | .bvs => 0x70#8
  | .adcIzy => 0x71#8
  | .und72 => 0x72#8
  | .und73 => 0x73#8
  | .und74 => 0x74#8
  | .adcZpx => 0x75#8
  | .rorZpx => 0x76#8
  | .und77 => 0x77#8
  | .sei => 0x78#8
  | .adcAby => 0x79#8
  | .und7A => 0x7A#8
  | .und7B => 0x7B#8
  | .und7C => 0x7C#8
  | .adcAbx => 0x7D#8
  | .rorAbx => 0x7E#8
  | .und7F => 0x7F#8
  | .und80 => 0x80#8
  | .staIzx => 0x81#8
  | .und82 => 0x82#8
  | .und83 => 0x83#8
  | .styZp => 0x84#8
  | .staZp => 0x85#8
  | .stxZp => 0x86#8
  | .und87 => 0x87#8
  | .dey => 0x88#8
  | .und89 => 0x89#8
  | .txa => 0x8A#8
  | .und8B => 0x8B#8
  | .styAbs => 0x8C#8
  | .staAbs => 0x8D#8
  | .stxAbs => 0x8E#8
  | .und8F => 0x8F#8
  | .bcc => 0x90#8
  | .staIzy => 0x91#8
  | .und92 => 0x92#8
  | .und93 => 0x93#8
  | .styZpx => 0x94#8
  | .staZpx => 0x95#8
  | .stxZpy => 0x96#8
  | .und97 => 0x97#8
  | .tya => 0x98#8
  | .staAby => 0x99#8
  | .txs => 0x9A#8
  | .und9B => 0x9B#8
  | .und9C => 0x9C#8
  | .staAbx => 0x9D#8
  | .und9E => 0x9E#8
  | .und9F => 0x9F#8
  | .ldyImm => 0xA0#8
  | .ldaIzx => 0xA1#8
  | .ldxImm => 0xA2#8
  | .undA3 => 0xA3#8
  | .ldyZp => 0xA4#8
  | .ldaZp => 0xA5#8
  | .ldxZp => 0xA6#8
  | .undA7 => 0xA7#8
  | .tay => 0xA8#8
  | .ldaImm => 0xA9#8
  | .tax => 0xAA#8
  | .undAB => 0xAB#8
  | .ldyAbs => 0xAC#8
  | .ldaAbs => 0xAD#8
  | .ldxAbs => 0xAE#8
  | .undAF => 0xAF#8
  | .bcs => 0xB0#8
  | .ldaIzy => 0xB1#8
  | .undB2 => 0xB2#8
  | .undB3 => 0xB3#8
  | .ldyZpx => 0xB4#8
  | .ldaZpx => 0xB5#8
  | .ldxZpy => 0xB6#8
  | .undB7 => 0xB7#8
  | .clv => 0xB8#8
  | .ldaAby => 0xB9#8
  | .tsx => 0xBA#8
  | .undBB => 0xBB#8
  | .ldyAbx => 0xBC#8
  | .ldaAbx => 0xBD#8
  | .ldxAby => 0xBE#8
  | .undBF => 0xBF#8
  | .cpyImm => 0xC0#8
  | .cmpIzx => 0xC1#8
  | .undC2 => 0xC2#8
  | .undC3 => 0xC3#8
  | .cpyZp => 0xC4#8
  | .cmpZp => 0xC5#8
  | .decZp => 0xC6#8
  | .undC7 => 0xC7#8
  | .iny => 0xC8#8
  | .cmpImm => 0xC9#8
  | .dex => 0xCA#8
  | .undCB => 0xCB#8
  | .cpyAbs => 0xCC#8
  | .cmpAbs => 0xCD#8
  | .decAbs => 0xCE#8
  | .undCF => 0xCF#8
  | .bne => 0xD0#8
  | .cmpIzy => 0xD1#8
  | .undD2 => 0xD2#8
  | .undD3 => 0xD3#8
  | .undD4 => 0xD4#8
  | .cmpZpx => 0xD5#8
  | .decZpx => 0xD6#8
  | .undD7 => 0xD7#8
  | .cld => 0xD8#8
  | .cmpAby => 0xD9#8
  | .undDA => 0xDA#8
  | .undDB => 0xDB#8
  | .undDC => 0xDC#8
  | .cmpAbx => 0xDD#8
  | .decAbx => 0xDE#8
  | .undDF => 0xDF#8
  | .cpxImm => 0xE0#8
  | .sbcIzx => 0xE1#8
  | .undE2 => 0xE2#8
  | .undE3 => 0xE3#8
  | .cpxZp => 0xE4#8
  | .sbcZp => 0xE5#8
  | .incZp => 0xE6#8
  | .undE7 => 0xE7#8
  | .inx => 0xE8#8
  | .sbcImm => 0xE9#8
  | .nop => 0xEA#8
  | .undEB => 0xEB#8
  | .cpxAbs => 0xEC#8
  | .sbcAbs => 0xED#8
  | .incAbs => 0xEE#8
  | .undEF => 0xEF#8
  | .beq => 0xF0#8
  | .sbcIzy => 0xF1#8
  | .undF2 => 0xF2#8
  | .undF3 => 0xF3#8
  | .undF4 => 0xF4#8
  | .sbcZpx => 0xF5#8
  | .incZpx => 0xF6#8
  | .undF7 => 0xF7#8
  | .sed => 0xF8#8
  | .sbcAby => 0xF9#8
  | .undFA => 0xFA#8
  | .undFB => 0xFB#8
  | .undFC => 0xFC#8
  | .sbcAbx => 0xFD#8
  | .incAbx => 0xFE#8
  | .undFF => 0xFF#8

/-- The formats under a configuration: an undefined opcode of class `Pseudo` has that of its `PSEUDO_TABLE` entry
(rules R102, R302). -/
def Config.formatOf (c : Config) (i : Instr) : Format :=
  if i.format = .undefined ∧ c.pseudoOpcodes.contains (encodeOpcode i) = true then
    match c.pseudoTable.find? fun e => e.op == encodeOpcode i with
    | some e => e.format
    | none => .undefined
  else i.format

/-- Decode under a configuration (rules R102, R103, R302). -/
def decodeIn (c : Config) (bs : List Byte) : Except DecodeError (Code × List Byte) :=
  decodeAs c.formatOf bs

/-- The bytes of an instruction in memory, lowest address first (rule R100). -/
def encode (c : Code) : List Byte :=
  encodeOpcode c.instr :: c.operands

/-- The bytes of a word numbered as the opcode table numbers its bits: bit 0 is the least significant bit
of the byte at the lowest address. Three bytes, the longest instruction (rule R102); bits above `nbits`
are 0. -/
def tableBytes (nbits w : Nat) : List Byte :=
  let v := w % 2 ^ nbits
  [BitVec.ofNat 8 v, BitVec.ofNat 8 (v / 256), BitVec.ofNat 8 (v / 65536)]

/-- The instruction the decoder reads from a word of the opcode table. -/
def decodeTableWord (nbits w : Nat) : Option Instr :=
  match decode (tableBytes nbits w) with
  | .ok (c, _) => some c.instr
  | .error _ => none

end Sys2Proof
end

