-- ==== Sys2Proof/Machine/State.lean ====
section
/-! DEFINITION. Sys2Proof/Machine/State.lean: the state of the machine as plain data, the reasons a step
can stop, and the state at power-on. Every piece of state of spec/10_state.md and of the chips' files
stands here under its own name; INVENTORY.md lists each with its rule and its reset value. -/

namespace Sys2Proof.Machine

/-! ## The execution core -/

/-- The phase of the core's state machine (rule R31). `executeCycle n` is tick Tn, `n` from 2;
`interruptSequence k` is tick Ik, `k` from 1 to 7. -/
inductive Phase where
  | fetch | executeCycle (n : Nat) | interruptSequence (k : Nat) | halted
  deriving DecidableEq, Repr

/-- The latches that hold values between the ticks of one instruction (rule R32). -/
structure Latches where
  ir       : Byte
  adl      : Byte
  adh      : Byte
  ptr      : Byte
  dl       : Byte
  carryFix : Bool
  deriving DecidableEq, Repr

/-- The pending interrupt flags (rule R33). -/
structure Pending where
  irqLatched   : Bool
  nmiLinePrev  : Bool
  nmiPending   : Bool
  resetPending : Bool
  deriving DecidableEq, Repr

/-- The illegal-instruction condition (rule R34). -/
structure Illegal where
  flag   : Bool
  opcode : Byte
  pc     : Addr
  deriving DecidableEq, Repr

/-- The state of the execution core (rules R20 to R34). -/
structure Cpu where
  regs    : Regs
  pc      : Addr
  phase   : Phase
  latch   : Latches
  seqKind : SeqKind
  pend    : Pending
  illegal : Illegal
  deriving DecidableEq, Repr

/-! ## Scheduler and bus -/

/-- Who drives an interrupt line (rules R414, R446). -/
inductive Driver where
  | ifChip (k : Nat) | fdc | environment
  deriving DecidableEq, Repr

/-- Scheduler state (rules R35 to R37). `envLines` holds the lines the environment drives during the
running tick; `signals` the level of each wire's signal at the last tick boundary (none before the first); `droppedEvents` counts the
events that a full queue has dropped (entry U17). -/
structure Sched where
  tickCount     : Nat
  linesOut      : List (Line × Driver)
  linesLatched  : List (Line × Driver)
  unmappedCount : Nat
  envLines      : List Line
  signals       : List Bool
  droppedEvents : Nat
  deriving DecidableEq, Repr

/-- The chip that originates a transaction (rules R60, R62). -/
inductive Origin where
  | core | mixer
  deriving DecidableEq, Repr

/-- A bus transaction (rule R60). -/
structure Transaction where
  addr   : Addr
  write  : Bool
  data   : Byte
  origin : Origin
  deriving DecidableEq, Repr

/-- The content of the writable memory regions: the bytes that differ from what an unlisted address
reads as, addresses strictly rising (`Memory.wf`). -/
abbrev Memory := List Host.Cell

/-- An internally banked region (rule R69): its bank register, and the content of each of its banks, a memory
each. -/
structure Bank where
  select  : Byte
  content : List Memory
  deriving DecidableEq, Repr

/-! ## Video -/

/-- The timing generator (rules R310 to R312, and the output record of rule R321). `index` is the private
index of the register map (rule R322). -/
structure Vtg where
  hcount        : Nat
  vcount        : Nat
  hsync         : Bool
  vsync         : Bool
  displayEnable : Bool
  reg           : VtgRegs
  charPhase     : Nat
  pending       : List VtgUpdate
  ma            : Nat
  rowBase       : Nat
  ra            : Nat
  field         : Bool
  lineStart     : Bool
  frameStart    : Bool
  index         : Nat
  deriving DecidableEq, Repr

/-- The teletext state (rule R340). -/
structure Ttx where
  fg           : TtxColour
  bg           : TtxColour
  graphics     : Bool
  doubleHeight : Bool
  dhSeen       : Bool
  dhBottom     : Bool
  deriving DecidableEq, Repr

/-- The Pixel Mixer (rule R330). -/
structure Mixer where
  regs      : MixerRegs
  rowBuf    : List Rgb
  vsyncPrev : Bool
  ttx       : Ttx
  deriving DecidableEq, Repr

/-! ## Interface chips -/

/-- One port of a parallel chip (rule R352). -/
structure PortState where
  out : Byte
  ddr : Byte
  pin : Byte
  hs  : Bool
  ie  : Bool
  deriving DecidableEq, Repr

/-- A serial chip (rule R353). -/
structure Serial where
  txData  : Byte
  txEmpty : Bool
  txTimer : Nat
  rxData  : Byte
  rxFull  : Bool
  overrun : Bool
  rxIe    : Bool
  txIe    : Bool
  deriving DecidableEq, Repr

/-- The registers of an Interface Chip, by kind (rule R350). -/
inductive IfUnit where
  | parallel (a b : PortState)
  | serial (u : Serial)
  deriving DecidableEq, Repr

/-- An Interface Chip: its registers, its event queue, oldest first, and its event latch (rule R359). -/
structure IfChip where
  unit     : IfUnit
  queue    : List IfEvent
  extLatch : Option IfEvent
  deriving DecidableEq, Repr

/-! ## Floppy controller -/

/-- The states of the command state machine (rule R370). -/
inductive FdcState where
  | idle | seeking | transferring | verifying | error | done
  deriving DecidableEq, Repr

/-- The command record (rule R372), but for `result`, which outlives it. -/
structure FdcCmd where
  kind       : FdcKind
  drive      : Nat
  track      : Nat
  sector     : Nat
  retryCount : Nat
  deriving DecidableEq, Repr

/-- The floppy controller (rules R370 to R373). `cmd` is there exactly while a command is in progress. -/
structure Fdc where
  state        : FdcState
  cmd          : Option FdcCmd
  result       : FdcResult
  track        : Byte
  sector       : Byte
  drive        : Byte
  dataReg      : Byte
  drq          : Bool
  lostData     : Bool
  rejected     : Bool
  irqDone      : Bool
  delay        : Nat
  byteTimer    : Nat
  byteIndex    : Nat
  buffer       : List Byte
  storedCrc    : Nat
  currentTrack : List Nat
  deriving DecidableEq, Repr

/-! ## What comes in and what goes out -/

/-- An image put into a drive or taken out (rule R406). -/
inductive DriveEvent where
  | insert (d : Nat) (i : Image)
  | remove (d : Nat)
  deriving DecidableEq, Repr

/-- What the outside does to the machine at one tick boundary: the interrupt lines it drives during the
tick (rule R414), the events it appends to the queues (rule R359), the drives it changes (rule R406). -/
structure TickInput where
  lines  : List Line
  events : List (Nat × IfEvent)
  drives : List DriveEvent
  deriving DecidableEq, Repr

/-- Outputs of the block: the Mixer's events (rule R338) and the Interface Chips' requests (rule R363). -/
inductive OutEvent where
  | row (pixels : List Rgb)
  | frameBoundary
  | portOut (chip : Nat) (p : Port) (levels ddr : Byte)
  | serialTx (chip : Nat) (b : Byte)
  deriving DecidableEq, Repr

/-! ## The whole machine -/

/-- The state of the machine. `cfg` is the configuration, which no step writes. `input` is what the
outside does at the coming tick boundaries, the next one first; after its end the outside is silent.
`output` and `bus` are what the machine has emitted and the transactions it has made, newest first. -/
structure State where
  cfg     : Config
  cpu     : Cpu
  sched   : Sched
  mem     : Memory
  banks   : List Bank
  vtg     : Vtg
  mixer   : Mixer
  ifChips : List IfChip
  fdc     : Fdc
  drives  : List (Option Image)
  input   : List TickInput
  output  : List OutEvent
  bus     : List Transaction
  deriving DecidableEq, Repr

/-! ## Why a step stops -/

/-- Faults. No instruction and no access faults on this machine (rules R77, R410). -/
inductive Fault where
  /-- Raised by a tick of a core whose phase names a tick that the running pattern or sequence does not
  have. The spec has no rule for such a state and no run reaches one. Safe: the model stops. -/
  | noSuchTick
  deriving DecidableEq, Repr

/-- Refusals. -/
inductive Refusal where
  /-- An instruction without a meaning in this model: none (every arm of `exec` calls a meaning). Safe. -/
  | notModelled (mnemonic : String)
  /-- Raised by the step when the configuration is ill-formed (rules R63, R302: the model must refuse it). Safe. -/
  | illFormedConfiguration
  /-- Raised when an opcode of class `Pseudo` has no entry in `PSEUDO_TABLE` (rule R302: the model must
  refuse it). Safe. -/
  | pseudoWithoutEntry (op : Byte)
  deriving DecidableEq, Repr

/-- What a meaning and a step answer. -/
abbrev Result := Host.Outcome State Fault Refusal

/-! ## Power-on -/

/-- A port of a parallel chip at power-on: the reset values of its layout (rule R7), and where it has none those
of rule R365: all pins inputs, idle high. -/
def PortState.powerOn (l : ParLayout) (p : Port) : PortState where
  out := (l.resets.lookup (.data p)).getD 0#8
  ddr := (l.resets.lookup (.ddr p)).getD 0#8
  pin := 0xFF#8
  hs := ((l.resets.lookup .status).getD 0#8).getLsbD (match p with | .a => l.hsA | .b => l.hsB)
  ie := ((l.resets.lookup .control).getD 0#8).getLsbD (match p with | .a => l.ieA | .b => l.ieB)

/-- A serial chip at power-on: the reset values of its layout (rule R7), and where it has none those of rule
R365; the data bytes are unspecified there (notes/assumptions/10.md). -/
def Serial.powerOn (l : SerLayout) : Serial where
  txData := (l.resets.lookup .txData).getD 0#8
  txEmpty := ((l.resets.lookup .status).map fun v => v.getLsbD l.txEmpty).getD true
  txTimer := 0
  rxData := (l.resets.lookup .rxData).getD 0#8
  rxFull := ((l.resets.lookup .status).getD 0#8).getLsbD l.rxFull
  overrun := ((l.resets.lookup .status).getD 0#8).getLsbD l.overrun
  rxIe := ((l.resets.lookup .control).getD 0#8).getLsbD l.rxIe
  txIe := ((l.resets.lookup .control).getD 0#8).getLsbD l.txIe

/-- An Interface Chip at power-on (rule R365). -/
def IfChip.powerOn (c : IfChipCfg) : IfChip where
  unit := match c.kind with
    | .parallel l => .parallel (.powerOn l .a) (.powerOn l .b)
    | .serial l => .serial (.powerOn l)
  queue := []
  extLatch := none

/-- A banked region at power-on. The spec describes no bank register (notes/assumptions/29.md). -/
def Bank.powerOn (c : BankCfg) : Bank where
  select := c.reset
  content := List.replicate c.count []

/-- The core at power-on (rule R50): at tick I1 of a RESET sequence. Registers, flags and latches are
unspecified there (notes/assumptions/5.md and 6.md). -/
def Cpu.powerOn : Cpu where
  regs := ⟨0#8, 0#8, 0#8, 0#8, ⟨false, false, false, false, false, false⟩⟩
  pc := 0#16
  phase := .interruptSequence 1
  latch := ⟨0#8, 0#8, 0#8, 0#8, 0#8, false⟩
  seqKind := .reset
  pend := ⟨false, false, false, true⟩
  illegal := ⟨false, 0#8, 0#16⟩

/-- The timing generator at power-on (rule R326). -/
def Vtg.powerOn (c : VtgCfg) : Vtg where
  hcount := 0
  vcount := 0
  hsync := false
  vsync := false
  displayEnable := false
  reg := c.reset
  charPhase := 0
  pending := []
  ma := 0
  rowBase := 0
  ra := 0
  field := false
  lineStart := false
  frameStart := false
  index := 0

/-- The Mixer at power-on (rule R348). -/
def Mixer.powerOn (c : Config) : Mixer where
  regs := c.mixer.resetRegs
  rowBuf := []
  vsyncPrev := false
  ttx := ⟨c.ttx.fgDefault, c.ttx.bgDefault, false, false, false, false⟩

/-- The floppy controller at power-on (rule R395). The data register and the buffer are unspecified there
(notes/assumptions/10.md). -/
def Fdc.powerOn (c : Config) : Fdc where
  state := .idle
  cmd := none
  result := .none
  track := 0#8
  sector := 0#8
  drive := 0#8
  dataReg := 0#8
  drq := false
  lostData := false
  rejected := false
  irqDone := false
  delay := 0
  byteTimer := 0
  byteIndex := 0
  buffer := List.replicate c.disk.bytesPerSector 0#8
  storedCrc := 0
  currentTrack := List.replicate c.disk.geometry.length 0

/-- The machine of a configuration at power-on, before tick 1 (rules R50 to R52, R450 to R453). The
environment holds RESET asserted (rule R51). -/
def State.powerOn (c : Config) : State where
  cfg := c
  cpu := .powerOn
  sched := {
    tickCount := 0
    linesOut := [(.reset, .environment)]
    linesLatched := [(.reset, .environment)]
    unmappedCount := 0
    envLines := [.reset]
    signals := []
    droppedEvents := 0 }
  mem := []
  banks := c.banks.map .powerOn
  vtg := .powerOn c.vtg
  mixer := .powerOn c
  ifChips := c.ifChips.map .powerOn
  fdc := .powerOn c
  drives := c.disk.images
  input := []
  output := []
  bus := []

/-- The machine right after reset: power-on, with the configuration `Config.default`. -/
def State.reset : State :=
  .powerOn .default

end Sys2Proof.Machine
end

