-- ==== Sys2Proof/Machine/Bytes.lean ====
section
/-! DEFINITION. Sys2Proof/Machine/Bytes.lean: byte order, sign extension and bit positions (rules R8, R9, R76). -/

namespace Sys2Proof.Machine

/-- `{hi8, lo8}` (rule R8). -/
def join (hi lo : Byte) : Addr :=
  hi ++ lo

/-- The low byte of an address: `PCL` of `PC` (rule R9). -/
def lowByte (a : Addr) : Byte :=
  a.setWidth 8

/-- The high byte of an address: `PCH` of `PC` (rule R9). -/
def highByte (a : Addr) : Byte :=
  a.extractLsb' 8 8

/-- `sext_16` (rule R9). -/
def signExtend16 (b : Byte) : Addr :=
  b.signExtend 16

/-- The address of the next free stack byte, `STACK_BASE + S`, with `STACK_BASE` = 0x0100 (rules R7, R23). A sum past
0xFFFF, which only another base has, wraps modulo 65536: DESIGN CHOICE, notes/assumptions/47.md. -/
def stackAddr (c : Config) (s : Byte) : Addr :=
  c.stackBase + s.setWidth 16

/-- The byte whose bit `pos` is `b` and whose other bits are 0. -/
def bitByte (pos : Nat) (b : Bool) : Byte :=
  if b then 1#8 <<< pos else 0#8

/-- What a write leaves in a register: its read-only bits keep their value (rules R39, R361). -/
def writeMasked (old new readOnly : Byte) : Byte :=
  (old &&& readOnly) ||| (new &&& ~~~readOnly)

end Sys2Proof.Machine
end

