-- ==== Sys2Proof/Machine/Memory.lean ====
section
/-! DEFINITION. Sys2Proof/Machine/Memory.lean: memory as a canonical list of the bytes that differ from
what an unlisted address reads as, and the resolution of an address through `ADDRESS_MAP`
(rules R38, R63 to R65, R69). -/

namespace Sys2Proof.Machine

/-- What an address that no cell lists reads as (notes/assumptions/7.md: the spec leaves the power-on
content of writable memory unspecified). -/
def Memory.unlisted : Byte :=
  0#8

/-- The byte at an address. -/
def Memory.read : List Host.Cell → Nat → Byte
  | [], _ => Memory.unlisted
  | (k, b) :: m, a => if k = a then b else Memory.read m a

/-- Puts a cell in its place in a rising list that does not list its address. -/
def Memory.insert (a : Nat) (v : Byte) : List Host.Cell → List Host.Cell
  | [] => [(a, v)]
  | (k, b) :: m => if a < k then (a, v) :: (k, b) :: m else (k, b) :: Memory.insert a v m

/-- Stores a byte and keeps the canonical form. -/
def Memory.write (m : List Host.Cell) (a : Nat) (v : Byte) : List Host.Cell :=
  let others := m.filter fun c => c.1 != a
  if v = Memory.unlisted then others else Memory.insert a v others

/-- The canonical form: addresses of the address space (rule R61), strictly rising, and no cell that
repeats what an unlisted address reads as. -/
def Memory.wf : List Host.Cell → Bool
  | [] => true
  | (k, b) :: m => decide (k < 65536) && b != Memory.unlisted && m.all (fun c => decide (k < c.1)) && Memory.wf m

/-! ## Banked regions -/

/-- The bank that the bank register selects; the register counts modulo the number of banks. -/
def bankNumber (c : BankCfg) (b : Bank) : Nat :=
  b.select.toNat % c.count

/-- The byte of a banked region at an address: that of the selected bank (rule R69). -/
def bankRead (c : BankCfg) (b : Bank) (a : Addr) : Byte :=
  Memory.read ((if c.writable then b.content else c.rom).getD (bankNumber c b) []) a.toNat

/-- A write to a banked region: a writable one stores into the selected bank, a read-only one ignores it
(rules R64, R69). -/
def bankWrite (c : BankCfg) (b : Bank) (a : Addr) (v : Byte) : Bank :=
  if c.writable then
    let n := bankNumber c b
    { b with content := b.content.set n (Memory.write (b.content.getD n []) a.toNat v) }
  else b

/-- A write to a bank register (rules R39, R69). -/
def bankChoose (c : BankCfg) (b : Bank) (v : Byte) : Bank :=
  { b with select := writeMasked b.select v c.readOnly }

/-- The configuration and the state of a banked region. -/
def bankAt (c : Config) (bs : List Bank) (k : Nat) : Option (BankCfg × Bank) :=
  (c.banks[k]?).bind fun b => (bs[k]?).map fun s => (b, s)

/-- The byte in the window of a banked region. -/
def bankByte (c : Config) (bs : List Bank) (k : Nat) (a : Addr) : Byte :=
  match bankAt c bs k with
  | some p => bankRead p.1 p.2 a
  | none => c.openBus

/-- What a core read of a bank register gives. No source describes such a register and rule R69 states no value: that
one that cannot be read gives the open-bus value is a DESIGN CHOICE (notes/assumptions/29.md). -/
def bankSelectByte (c : Config) (bs : List Bank) (k : Nat) : Byte :=
  match bankAt c bs k with
  | some p => if p.1.readable then p.2.select else c.openBus
  | none => c.openBus

/-! ## The address map -/

/-- The entry of `ADDRESS_MAP` that contains an address (rule R64). -/
def mapEntry (c : Config) (a : Addr) : Option MapEntry :=
  c.addressMap.find? fun e => e.lo ≤ a.toNat && a.toNat ≤ e.hi

/-- Whether a memory region that is not banked owns an address (rule R38). -/
def memoryOwned (c : Config) (a : Addr) : Bool :=
  match mapEntry c a with
  | some e => e.owner == .ram || e.owner == .rom
  | none => false

/-- Whether a writable memory region that is not banked owns an address (rule R38). -/
def ramOwned (c : Config) (a : Addr) : Bool :=
  match mapEntry c a with
  | some e => e.owner == .ram
  | none => false

/-- The byte that a memory region that is not banked holds at an address: the configured image in a read-only
region (rule R38), the writable memory elsewhere. -/
def memoryByte (c : Config) (m : Memory) (a : Addr) : Byte :=
  match mapEntry c a with
  | some e => if e.owner = .rom then Memory.read c.rom a.toNat else Memory.read m a.toNat
  | none => Memory.read m a.toNat

/-- The byte of the memory region that owns an address, banked regions among them (rules R38, R64, R69). The address
of a bank register is no memory region's: DESIGN CHOICE, as rule R75 does not name it (notes/assumptions/29.md). -/
def regionByte (c : Config) (m : Memory) (bs : List Bank) (a : Addr) : Option Byte :=
  match mapEntry c a with
  | none => none
  | some e =>
    match e.owner with
    | .ram => some (memoryByte c m a)
    | .rom => some (memoryByte c m a)
    | .bank k => some (bankByte c bs k a)
    | _ => none

/-- The banked regions after a write to an address (rules R64, R69). -/
def storeBanks (c : Config) (bs : List Bank) (a : Addr) (v : Byte) : List Bank :=
  match mapEntry c a with
  | none => bs
  | some e =>
    match e.owner with
    | .bank k =>
      match bankAt c bs k with
      | some p => bs.set k (bankWrite p.1 p.2 a v)
      | none => bs
    | .bankSelect k =>
      match bankAt c bs k with
      | some p => bs.set k (bankChoose p.1 p.2 v)
      | none => bs
    | _ => bs

/-- The byte of a memory region that is not banked at an address of a state, read without a transaction. -/
def State.peek (s : State) (a : Addr) : Byte :=
  memoryByte s.cfg s.mem a

end Sys2Proof.Machine
end

