-- ==== Sys2Proof/Machine/Flags.lean ====
section
/-! DEFINITION. Sys2Proof/Machine/Flags.lean: every flag computation: `setNZ` (rule R9), the status byte
(rules R27, R28), binary and decimal addition and subtraction (rules R211, R212, R214), comparison
(rule R215), bit test (rule R243), shifts and rotates (rules R244 to R247). -/

namespace Sys2Proof.Machine

/-- `setNZ(v)` (rule R9). -/
def setNZ (p : Flags) (v : Byte) : Flags :=
  { p with n := v.msb, z := v == 0#8 }

/-- The status byte `{N, V, 1, b, D, I, Z, C}` (rule R27). -/
def statusByte (p : Flags) (b : Bool) : Byte :=
  bitByte 7 p.n ||| bitByte 6 p.v ||| 0x20#8 ||| bitByte 4 b ||| bitByte 3 p.d ||| bitByte 2 p.i ||| bitByte 1 p.z |||
    bitByte 0 p.c

/-- The flags of a pulled status byte; bits 5 and 4 are ignored (rule R28). -/
def flagsOfByte (b : Byte) : Flags where
  n := b.getLsbD 7
  v := b.getLsbD 6
  d := b.getLsbD 3
  i := b.getLsbD 2
  z := b.getLsbD 1
  c := b.getLsbD 0

/-- What an addition answers: the byte and the four flags. -/
structure Sum where
  r : Byte
  c : Bool
  v : Bool
  n : Bool
  z : Bool
  deriving DecidableEq, Repr

/-- Signed overflow: both operands have the sign the result lacks (rule R211). -/
def signedOverflow (a m r : Byte) : Bool :=
  ((a ^^^ r) &&& (m ^^^ r) &&& 0x80#8) != 0#8

/-- `add_bin` (rule R211). -/
def addBin (a m : Byte) (c : Bool) : Sum :=
  let s := a.toNat + m.toNat + c.toNat
  let r := BitVec.ofNat 8 s
  { r := r, c := decide (256 ≤ s), v := signedOverflow a m r, n := r.msb, z := r == 0#8 }

/-- `add_dec` (rule R212). -/
def addDec (a m : Byte) (c : Bool) : Sum :=
  let low := a.toNat % 16 + m.toNat % 16 + c.toNat
  let al := if 0x0A ≤ low then (low + 0x06) % 16 + 0x10 else low
  let s := a.toNat / 16 * 16 + m.toNat / 16 * 16 + al
  let t := if 0xA0 ≤ s then s + 0x60 else s
  { r := BitVec.ofNat 8 t
    c := decide (0x100 ≤ t)
    v := signedOverflow a m (BitVec.ofNat 8 s)
    n := (BitVec.ofNat 8 s).msb
    z := decide ((a.toNat + m.toNat + c.toNat) % 256 = 0) }

/-- `sub_dec_result` (rule R214). -/
def subDecResult (a m : Byte) (c : Bool) : Byte :=
  let low : Int := (a.toNat % 16 : Nat) - (m.toNat % 16 : Nat) + (c.toNat : Nat) - 1
  let al : Int := if low < 0 then (low - 6) % 16 - 0x10 else low
  let s : Int := (a.toNat / 16 * 16 : Nat) - (m.toNat / 16 * 16 : Nat) + al
  BitVec.ofInt 8 (if s < 0 then s - 0x60 else s)

/-- The flags of a comparison of `r` with `m` (rule R215): `V` is not changed. -/
def compareFlags (p : Flags) (r m : Byte) : Flags :=
  { p with c := decide (m.toNat ≤ r.toNat), z := r == m, n := (r - m).msb }

/-- The flags of a bit test (rule R243): `N` and `V` come from the memory byte alone. -/
def bitFlags (p : Flags) (a m : Byte) : Flags :=
  { p with z := a &&& m == 0#8, n := m.getLsbD 7, v := m.getLsbD 6 }

/-- `ASL` of a byte (rule R244): the result and the flags. -/
def shiftLeft (p : Flags) (v : Byte) : Byte × Flags :=
  let r := v <<< 1
  (r, { setNZ p r with c := v.getLsbD 7 })

/-- `LSR` of a byte (rule R245): `N` is always cleared. -/
def shiftRight (p : Flags) (v : Byte) : Byte × Flags :=
  let r := v >>> 1
  (r, { p with c := v.getLsbD 0, n := false, z := r == 0#8 })

/-- `ROL` of a byte (rule R246), through the carry. -/
def rotateLeft (p : Flags) (v : Byte) : Byte × Flags :=
  let r := (v <<< 1) ||| bitByte 0 p.c
  (r, { setNZ p r with c := v.getLsbD 7 })

/-- `ROR` of a byte (rule R247), through the carry. -/
def rotateRight (p : Flags) (v : Byte) : Byte × Flags :=
  let r := (v >>> 1) ||| bitByte 7 p.c
  (r, { setNZ p r with c := v.getLsbD 0 })

end Sys2Proof.Machine
end

