-- ==== Sys2Proof/Machine/Video.lean ====
section
/-! DEFINITION. Sys2Proof/Machine/Video.lean: the Video Timing Generator (spec/50_video_timing.md). -/

namespace Sys2Proof.Machine

/-- A programmed field of the register set (rule R311). -/
def vtgGet (r : VtgRegs) : VtgField → Nat
  | .hTotal => r.hTotal
  | .vTotal => r.vTotal
  | .hSyncPos => r.hSyncPos
  | .vSyncPos => r.vSyncPos
  | .hSyncWidth => r.hSyncWidth
  | .vSyncWidth => r.vSyncWidth
  | .hDisplayed => r.hDisplayed
  | .vDisplayed => r.vDisplayed
  | .startAddr => r.startAddr
  | .linesPerRow => r.linesPerRow
  | .policy => r.policy

/-- Writes a programmed field (rule R311). -/
def vtgSet (r : VtgRegs) (v : Nat) : VtgField → VtgRegs
  | .hTotal => { r with hTotal := v }
  | .vTotal => { r with vTotal := v }
  | .hSyncPos => { r with hSyncPos := v }
  | .vSyncPos => { r with vSyncPos := v }
  | .hSyncWidth => { r with hSyncWidth := v }
  | .vSyncWidth => { r with vSyncWidth := v }
  | .hDisplayed => { r with hDisplayed := v }
  | .vDisplayed => { r with vDisplayed := v }
  | .startAddr => { r with startAddr := v }
  | .linesPerRow => { r with linesPerRow := v }
  | .policy => { r with policy := v }

/-- The bits of `old` outside `mask` and those of `new` inside it. -/
def mergeBits (old new mask : Nat) : Nat :=
  old ^^^ ((old ^^^ new) &&& mask)

/-- Applies one staged update (rule R323). -/
def vtgApply (r : VtgRegs) (u : VtgUpdate) : VtgRegs :=
  vtgSet r (mergeBits (vtgGet r u.field) u.value u.mask) u.field

/-- The width of a field (rule R322); that of the start address is `MA_BITS` (rule R325). -/
def vtgWidth (c : VtgCfg) (f : VtgField) : Nat :=
  vtgGet c.widths f

/-- An update reaches the bits that its field has (rules R322, R325). -/
def vtgCut (c : VtgCfg) (u : VtgUpdate) : VtgUpdate :=
  { u with mask := u.mask % 2 ^ vtgWidth c u.field }

/-- What a written byte stages for one part of a register: the part's writable bits (rules R39, R322). -/
def vtgStagePart (readOnly v : Byte) (p : VtgPart) : VtgUpdate where
  field := p.field
  mask := (255 - readOnly.toNat) / 2 ^ p.low % 2 ^ p.bits * 2 ^ p.shift
  value := v.toNat / 2 ^ p.low % 2 ^ p.bits * 2 ^ p.shift

/-- The updates a write to a register stages (rule R323). -/
def vtgStage (c : VtgCfg) (r : VtgReg) (v : Byte) : List VtgUpdate :=
  r.parts.map fun p => vtgCut c (vtgStagePart r.readOnly v p)

/-- What stands at a bus offset (rule R322); nothing beyond the offsets of the map (notes/assumptions/39.md). -/
def vtgPort (c : VtgCfg) (offset : Nat) : VtgPort :=
  c.ports.getD offset .absent

/-- The register a data port reaches; an index that selects none reaches one without bits that cannot be read
(notes/assumptions/39.md). -/
def vtgRegister (c : VtgCfg) (index : Nat) : VtgReg :=
  c.regs.getD index { parts := [], readable := false, readOnly := 0#8 }

/-- A bus write (rules R322, R323): its updates wait for the next character-period boundary; the map's
private index changes at once, to all eight bits written (DESIGN CHOICE, notes/assumptions/16.md). An arbitrary map
sees the writable bits of the byte. -/
def vtgWrite (c : VtgCfg) (offset : Nat) (v : Byte) (g : Vtg) : Vtg :=
  if c.free then
    let w := v &&& ~~~Config.openVtgReadOnly offset g.index
    { g with
      pending := g.pending ++ (Config.openVtgWrite offset g.index w).map (vtgCut c)
      index := Config.openVtgIndex offset g.index w }
  else match vtgPort c offset with
    | .index => { g with index := v.toNat }
    | .data => { g with pending := g.pending ++ vtgStage c (vtgRegister c g.index) v }
    | .direct r => { g with pending := g.pending ++ vtgStage c r v }
    | .absent => g

/-- The counters as a map may show them (rules R310, R312, R324). -/
def vtgCounters (g : Vtg) : VtgCounters :=
  ⟨g.hcount, g.vcount, g.charPhase, g.ma, g.rowBase, g.ra⟩

/-- The value of a counter. -/
def vtgCount (n : VtgCounters) : VtgCounter → Nat
  | .hcount => n.hcount
  | .vcount => n.vcount
  | .charPhase => n.charPhase
  | .ma => n.ma
  | .rowBase => n.rowBase
  | .ra => n.ra

/-- `bits` bits of a value from bit `shift`, in a byte from bit `low`. -/
def placeBits (v shift low bits : Nat) : Byte :=
  BitVec.ofNat 8 (v / 2 ^ shift % 2 ^ bits * 2 ^ low)

/-- The byte a readable register shows, from the active register set and the counters (rule R324). -/
def vtgRegByte (r : VtgRegs) (n : VtgCounters) (q : VtgReg) : Byte :=
  q.parts.foldl (fun b p => b ||| placeBits (vtgGet r p.field) p.shift p.low p.bits) 0#8 |||
    q.counters.foldl (fun b p => b ||| placeBits (vtgCount n p.counter) p.shift p.low p.bits) 0#8

/-- A bus read, without a side effect; what cannot be read gives the open-bus value (rule R324), the index register
among it (DESIGN CHOICE, notes/assumptions/16.md). -/
def vtgRead (c : Config) (offset : Nat) (g : Vtg) : Byte :=
  if c.vtg.free then (Config.openVtgRead offset g.index g.reg (vtgCounters g)).getD c.openBus
  else
    let q := match vtgPort c.vtg offset with
      | .data => vtgRegister c.vtg g.index
      | .direct r => r
      | _ => { parts := [], readable := false, readOnly := 0#8 }
    if q.readable then vtgRegByte g.reg (vtgCounters g) q else c.openBus

/-- The policy in force: the configured one, or the one that the programmed field selects (rule R318). A
well-formed table has an entry for every value of the field. -/
def vtgPolicy (c : VtgCfg) (r : VtgRegs) : AddrPolicy :=
  match c.policy with
  | .fixed p => p
  | .programmed table => table.getD r.policy .nonInterlaced

/-- `POLICY.frame_start` (rule R318); a row base has `MA_BITS` bits (rule R312). -/
def frameStartPolicy (c : VtgCfg) (r : VtgRegs) (field : Bool) : Nat × Nat :=
  match vtgPolicy c r with
  | .nonInterlaced => (r.startAddr % 2 ^ c.maBits, 0)
  | .interlaced => (r.startAddr % 2 ^ c.maBits, field.toNat)
  | .free k =>
    let next := Config.openFrameStart k r field
    (next.1 % 2 ^ c.maBits, next.2)

/-- `POLICY.next_line` (rule R318). -/
def nextLinePolicy (c : VtgCfg) (r : VtgRegs) (rowBase ra : Nat) (field : Bool) : Nat × Nat :=
  match vtgPolicy c r with
  | .nonInterlaced =>
    if r.linesPerRow ≤ ra + 1 then ((rowBase + r.hDisplayed) % 2 ^ c.maBits, 0) else (rowBase, ra + 1)
  | .interlaced =>
    if r.linesPerRow ≤ ra + 2 then ((rowBase + r.hDisplayed) % 2 ^ c.maBits, field.toNat) else (rowBase, ra + 2)
  | .free k =>
    let next := Config.openNextLine k r rowBase ra field
    (next.1 % 2 ^ c.maBits, next.2)

/-- `line_end` (rule R315). -/
def lineEnd (r : VtgRegs) (hcount : Nat) : Bool :=
  decide (r.hTotal ≤ hcount + 1)

/-- `frame_end`, at the end of a line (rule R316). -/
def frameEnd (r : VtgRegs) (vcount : Nat) : Bool :=
  decide (r.vTotal ≤ vcount + 1)

/-- Steps the counters and addresses at a boundary, the register set already updated (rules R314 to R318). -/
def vtgAdvance (c : VtgCfg) (g : Vtg) : Vtg :=
  if lineEnd g.reg g.hcount then
    let g' :=
      if frameEnd g.reg g.vcount then
        let field := !g.field
        let next := frameStartPolicy c g.reg field
        { g with vcount := 0, field := field, rowBase := next.1, ra := next.2, frameStart := true }
      else
        let next := nextLinePolicy c g.reg g.rowBase g.ra g.field
        { g with vcount := g.vcount + 1, rowBase := next.1, ra := next.2, frameStart := false }
    { g' with hcount := 0, ma := g'.rowBase, lineStart := true }
  else
    { g with hcount := g.hcount + 1, ma := (g.ma + 1) % 2 ^ c.maBits, lineStart := false, frameStart := false }

/-- The sync and display-enable outputs for the counters (rules R319, R320). -/
def vtgOutputs (g : Vtg) : Vtg :=
  { g with
    hsync := decide (g.reg.hSyncPos ≤ g.hcount) && decide (g.hcount < g.reg.hSyncPos + g.reg.hSyncWidth)
    vsync := decide (g.reg.vSyncPos ≤ g.vcount) && decide (g.vcount < g.reg.vSyncPos + g.reg.vSyncWidth)
    displayEnable := decide (g.hcount < g.reg.hDisplayed) && decide (g.vcount < g.reg.vDisplayed) }

/-- The per-tick update (rule R314). -/
def vtgTick (c : VtgCfg) (g : Vtg) : Vtg :=
  if g.charPhase + 1 < c.ticksPerChar then
    { g with charPhase := g.charPhase + 1, lineStart := false, frameStart := false }
  else
    vtgOutputs (vtgAdvance c { g with charPhase := 0, reg := g.pending.foldl vtgApply g.reg, pending := [] })

/-- `VTG.update()` in the machine (rules R70, R314). -/
def vtgUpdate (s : State) : State :=
  { s with vtg := vtgTick s.cfg.vtg s.vtg }

/-- A tick in which the timing generator does not act: the marks of a tick that wrapped a counter are 0 in every
other tick (rules R71, R321). -/
def vtgIdle (s : State) : State :=
  { s with vtg := { s.vtg with lineStart := false, frameStart := false } }

end Sys2Proof.Machine
end

