-- ==== Sys2Proof/Machine/Teletext.lean ====
section
/-! DEFINITION. Sys2Proof/Machine/Teletext.lean: the Teletext Decoder, functions the Mixer calls (rules R340
to R347 of spec/51_pixel_mixer_teletext.md). -/

namespace Sys2Proof.Machine

/-- `ttx_frame_start` (rule R342). -/
def ttxFrameStart (t : Ttx) : Ttx :=
  { t with dhSeen := false, dhBottom := false }

/-- The first scan line of a character row: `ra = 0`, or `ra = field` under the interlaced policy (rule R342). -/
def ttxFirstLine (p : AddrPolicy) (ra : Nat) (field : Bool) : Bool :=
  ra == 0 || (p == .interlaced && ra == field.toNat)

/-- `ttx_line_start` (rule R342): the row state returns to its defaults; at the first scan line of a
character row the double-height bookkeeping steps. -/
def ttxLineStart (c : TtxCfg) (firstLine : Bool) (t : Ttx) : Ttx :=
  { fg := c.fgDefault
    bg := c.bgDefault
    graphics := false
    doubleHeight := false
    dhSeen := if firstLine then false else t.dhSeen
    dhBottom := if firstLine then t.dhSeen && !t.dhBottom else t.dhBottom }

/-- `apply(action)` (rule R344). -/
def ttxApply (t : Ttx) : TtxAction → Ttx
  | .setTextColour c => { t with fg := c, graphics := false }
  | .setGraphicsColour c => { t with fg := c, graphics := true }
  | .normalHeight => { t with doubleHeight := false }
  | .doubleHeight => { t with doubleHeight := true, dhSeen := true }
  | .blackBackground => { t with bg := 0 }
  | .newBackground => { t with bg := t.fg }
  | .nothing => t

/-- `glyph_row(ra)` (rule R345). -/
def glyphRow (c : TtxCfg) (t : Ttx) (ra : Nat) : Option Nat :=
  if t.doubleHeight then
    let r := if t.dhBottom then (ra + c.glyphH) / 2 else ra / 2
    if r < c.glyphH then some r else none
  else if t.dhBottom then none
  else if ra < c.glyphH then some ra else none

/-- `is_mosaic(code)` (rule R346). -/
def isMosaic (code : Nat) : Bool :=
  (decide (0x20 ≤ code) && decide (code ≤ 0x3F)) || (decide (0x60 ≤ code) && decide (code ≤ 0x7F))

/-- The block of a mosaic in band `k`, left or right half (rule R346). -/
def mosaicBlock (code band : Nat) (right : Bool) : Bool :=
  code.testBit (if band < 2 then 2 * band + right.toNat else if right then 6 else 4)

/-- `mosaic(code, r)` (rule R346): two halves and three bands of rows. The half and the tenths are exact fractions, not
rounded, so the middle pixel of an odd width is in the left half, and a row exactly at seven tenths is in band 2: DESIGN
CHOICE, notes/assumptions/42.md. -/
def mosaic (c : TtxCfg) (code r : Nat) : List Bool :=
  let band := if 10 * r < 3 * c.glyphH then 0 else if 10 * r < 7 * c.glyphH then 1 else 2
  (List.range c.glyphW).map fun j => mosaicBlock code band (decide (c.glyphW ≤ 2 * j))

/-- `TTX_GLYPH_ROM(code, r)` (rule R341), padded or cut to the cell's width. -/
def glyphRom (c : TtxCfg) (code r : Nat) : List Bool :=
  let bits := match c.glyphs.find? fun g => g.code == code && g.row == r with
    | some g => g.bits
    | none => []
  (List.range c.glyphW).map fun j => bits.getD j false

/-- `TTX_PALETTE(c)` (rule R341). -/
def ttxColour (c : TtxCfg) (k : TtxColour) : Rgb :=
  c.palette.getD k.val ⟨0, 0, 0⟩

/-- `TTX_CONTROL(code)` (rule R344). -/
def ttxControl (c : TtxCfg) (code : Nat) : TtxAction × TtxTiming :=
  match c.control.find? fun k => k.code == code with
  | some k => (k.action, k.timing)
  | none => (.nothing, .after)

/-- `ttx_cell(code, ra)` (rule R343): the pixels of one cell and the state after it. -/
def ttxCell (c : TtxCfg) (code ra : Nat) (t : Ttx) : List Rgb × Ttx :=
  if code < 0x20 then
    let control := ttxControl c code
    let during := if control.2 = .atOnce then ttxApply t control.1 else t
    let after := if control.2 = .after then ttxApply during control.1 else during
    (List.replicate c.glyphW (ttxColour c during.bg), after)
  else
    let bits := match glyphRow c t ra with
      | none => List.replicate c.glyphW false
      | some r => if t.graphics && isMosaic code then mosaic c code r else glyphRom c code r
    (bits.map fun b => if b then ttxColour c t.fg else ttxColour c t.bg, t)

end Sys2Proof.Machine
end

