-- ==== Sys2Proof/Machine/PixelMixer.lean ====
section
/-! DEFINITION. Sys2Proof/Machine/PixelMixer.lean: the Video Pixel Mixer (rules R330 to R338 of
spec/51_pixel_mixer_teletext.md) and its read transactions (rules R62, R75). -/

namespace Sys2Proof.Machine

/-- The active mode, an entry of the table (rule R330); the spec states none for an index beyond the table
(notes/assumptions/21.md). -/
def activeMode (c : MixerCfg) (m : Nat) : Mode :=
  (c.modes[m]?).getD (c.modes.getD (Config.openMode m % c.modes.length) ⟨1, false⟩)

/-- A colour with components of `RGB_BITS` bits (rule R333). -/
def rgbCut (c : MixerCfg) (p : Rgb) : Rgb :=
  ⟨p.r % 2 ^ c.rgbBits, p.g % 2 ^ c.rgbBits, p.b % 2 ^ c.rgbBits⟩

/-- The pixel of a logical colour (rule R335); the spec states none beyond the palette
(notes/assumptions/21.md). -/
def paletteColour (c : MixerCfg) (r : MixerRegs) (k : Nat) : Rgb :=
  (r.palette[k]?).getD (rgbCut c (Config.openColour k))

/-- The logical colour of pixel `i` of a byte (rules R333, R335): by default packed fields, most significant first;
under any other packing an entry of the palette. -/
def unpackPixel (c : MixerCfg) (bpp : Nat) (b : Byte) (i : Nat) : Nat :=
  match c.packing with
  | .packed => b.toNat / 2 ^ (8 - bpp * (i + 1)) % 2 ^ bpp
  | .free => Config.openUnpack bpp b i % c.paletteSize

/-- `UNPACK(bpp, b)` (rule R335): `8 / bpp` logical colours, leftmost pixel first. -/
def unpack (c : MixerCfg) (bpp : Nat) (b : Byte) : List Nat :=
  (List.range (8 / bpp)).map (unpackPixel c bpp b)

/-- `VIDEO_ADDR_MAP` (rule R331): by default one byte per character period, in its first tick. -/
def videoAddrs (m : VideoMap) (ma ra charPhase mode : Nat) : List Addr :=
  match m with
  | .identity => if charPhase = 0 then [BitVec.ofNat 16 ma] else []
  | .free => Config.openVideoMap ma ra charPhase mode

/-- A component of a palette entry. -/
def rgbGet (p : Rgb) : Component → Nat
  | .red => p.r
  | .green => p.g
  | .blue => p.b

/-- Writes a component of a palette entry. -/
def rgbSet (p : Rgb) (v : Nat) : Component → Rgb
  | .red => { p with r := v }
  | .green => { p with g := v }
  | .blue => { p with b := v }

/-- What a register holds after a write: its read-only bits keep their value (rules R39, R334). -/
def mixerStore (old : Nat) (v readOnly : Byte) : Nat :=
  mergeBits old v.toNat (255 - readOnly.toNat)

/-- What stands at a bus offset of the Mixer (rule R334); nothing beyond the offsets of the map
(notes/assumptions/39.md). -/
def mixerPort (c : MixerCfg) (offset : Nat) : MixerPort :=
  c.ports.getD offset .absent

/-- The registers an arbitrary map leaves: a palette of `2^PAL_BITS` entries of `RGB_BITS` bits (rule R333). -/
def mixerFit (c : MixerCfg) (r : MixerRegs) : MixerRegs where
  mode := r.mode
  palette := (List.range c.paletteSize).map fun k => rgbCut c (r.palette.getD k ⟨0, 0, 0⟩)
  index := r.index % c.paletteSize

/-- A bus write, in force at once (rule R334). An arbitrary map sees the writable bits of the byte. -/
def mixerWrite (c : MixerCfg) (offset : Nat) (v : Byte) (r : MixerRegs) : MixerRegs :=
  if c.free then mixerFit c (Config.openMixerWrite offset (v &&& ~~~Config.openMixerReadOnly offset) r)
  else match mixerPort c offset with
    | .mode _ readOnly => { r with mode := mixerStore r.mode v readOnly }
    | .paletteIndex _ readOnly => { r with index := mixerStore r.index v readOnly % c.paletteSize }
    | .paletteComponent k _ readOnly =>
      let entry := r.palette.getD r.index ⟨0, 0, 0⟩
      { r with palette := r.palette.set r.index (rgbSet entry (mixerStore (rgbGet entry k) v readOnly % 2 ^ c.rgbBits) k) }
    | .absent => r

/-- A bus read; what cannot be read gives the open-bus value (rule R334). -/
def mixerRegRead (c : Config) (offset : Nat) (r : MixerRegs) : Byte :=
  if c.mixer.free then (Config.openMixerRead offset r).getD c.openBus
  else match mixerPort c.mixer offset with
    | .mode true _ => BitVec.ofNat 8 r.mode
    | .paletteIndex true _ => BitVec.ofNat 8 r.index
    | .paletteComponent k true _ => BitVec.ofNat 8 (rgbGet (r.palette.getD r.index ⟨0, 0, 0⟩) k)
    | _ => c.openBus

/-- The byte a Mixer fetch receives: that of a memory region, else the open-bus value (rule R75). At the address of
a bank register, which rule R75 does not name, it is the open-bus value too: DESIGN CHOICE, notes/assumptions/29.md. -/
def mixerFetchByte (s : State) (a : Addr) : Byte :=
  (regionByte s.cfg s.mem s.banks a).getD s.cfg.openBus

/-- `MixerRead(a)` (rules R75, R332): no side effect on any chip; an unowned address is counted. A
bank register has an owner, so a fetch of its address is not counted (DESIGN CHOICE, notes/assumptions/29.md). -/
def mixerFetch (s : State) (a : Addr) : State :=
  { s with
    bus := ⟨a, false, mixerFetchByte s a, .mixer⟩ :: s.bus
    sched := { s.sched with
      unmappedCount := s.sched.unmappedCount + if (mapEntry s.cfg a).isNone then 1 else 0 } }

/-- The pixels of one fetched byte join the row (rules R332, R335, R343, R347). -/
def mixerPixels (c : Config) (ra : Nat) (b : Byte) (m : Mixer) : Mixer :=
  let mode := activeMode c.mixer m.regs.mode
  if mode.teletext then
    let cell := ttxCell c.ttx (b.toNat % 128) ra m.ttx
    { m with rowBuf := m.rowBuf ++ cell.1, ttx := cell.2 }
  else
    { m with rowBuf := m.rowBuf ++ (unpack c.mixer mode.bpp b).map (paletteColour c.mixer m.regs) }

/-- One fetch of the Mixer and its pixels (rule R332). -/
def mixerStep (s : State) (a : Addr) : State :=
  let s' := mixerFetch s a
  { s' with mixer := mixerPixels s.cfg s.vtg.ra (mixerFetchByte s a) s.mixer }

/-- Emits the row in progress, if it has pixels (rules R336, R337). -/
def mixerFlush (s : State) : State :=
  if s.mixer.rowBuf = [] then s
  else { s with output := .row s.mixer.rowBuf :: s.output, mixer := { s.mixer with rowBuf := [] } }

/-- The frame boundary, in the tick in which `vsync` is seen to rise (rule R337). -/
def mixerFrame (s : State) : State :=
  let rises := s.vtg.vsync && !s.mixer.vsyncPrev
  let s' := if rises then
      let f := mixerFlush s
      { f with output := .frameBoundary :: f.output }
    else s
  { s' with mixer := { s'.mixer with vsyncPrev := s.vtg.vsync } }

/-- The end of a row (rule R336). -/
def mixerRow (s : State) : State :=
  if s.vtg.lineStart || !s.vtg.displayEnable then mixerFlush s else s

/-- The teletext state at a frame start and at a line start (rule R342). -/
def mixerTeletext (s : State) : State :=
  let t := if s.vtg.frameStart then ttxFrameStart s.mixer.ttx else s.mixer.ttx
  let first := ttxFirstLine (vtgPolicy s.cfg.vtg s.vtg.reg) s.vtg.ra s.vtg.field
  { s with mixer := { s.mixer with ttx := if s.vtg.lineStart then ttxLineStart s.cfg.ttx first t else t } }

/-- The fetches of the tick, inside the active window only (rules R332, R336). -/
def mixerFetches (s : State) : State :=
  if s.vtg.displayEnable then
    (videoAddrs s.cfg.mixer.videoMap s.vtg.ma s.vtg.ra s.vtg.charPhase s.mixer.regs.mode).foldl mixerStep s
  else s

/-- `Mixer.update()` (rule R332). -/
def mixerUpdate (s : State) : State :=
  mixerFetches (mixerTeletext (mixerRow (mixerFrame s)))

end Sys2Proof.Machine
end

