-- ==== Sys2Proof/Machine/Interface.lean ====
section
/-! DEFINITION. Sys2Proof/Machine/Interface.lean: the parallel and serial Interface Chips and their event
queues (spec/52_interface_chips.md). -/

namespace Sys2Proof.Machine

/-! ## Ports and interrupt outputs -/

/-- The levels a port drives: the latch on its output pins (rule R354). -/
def portLevels (p : PortState) : Byte :=
  p.out &&& p.ddr

/-- What a read of `DATA_p` returns (rule R354). -/
def portData (p : PortState) : Byte :=
  (p.out &&& p.ddr) ||| (p.pin &&& ~~~p.ddr)

/-- The interrupt output of a chip, a function of its state (rule R360). -/
def ifIrq : IfUnit → Bool
  | .parallel a b => (a.hs && a.ie) || (b.hs && b.ie)
  | .serial u => (u.rxFull && u.rxIe) || (u.txEmpty && u.txIe)

/-! ## Parallel registers -/

/-- The `STATUS` byte of a parallel chip (rule R354). -/
def parStatus (l : ParLayout) (a b : PortState) : Byte :=
  bitByte l.hsA a.hs ||| bitByte l.hsB b.hs ||| bitByte l.irq (ifIrq (.parallel a b))

/-- The `CONTROL` byte of a parallel chip (rule R354). -/
def parControl (l : ParLayout) (a b : PortState) : Byte :=
  bitByte l.ieA a.ie ||| bitByte l.ieB b.ie

/-- The read-only bits of a register of a parallel chip (rule R361). -/
def parReadOnly (l : ParLayout) (r : ParReg) : Byte :=
  (l.readOnly.lookup r).getD 0#8

/-- A core read of a parallel register: the byte and the chip after it (rules R354, R355). -/
def parRead (l : ParLayout) (a b : PortState) : ParReg → Byte × IfUnit
  | .data .a => (portData a, .parallel { a with hs := false } b)
  | .data .b => (portData b, .parallel a { b with hs := false })
  | .ddr .a => (a.ddr, .parallel a b)
  | .ddr .b => (b.ddr, .parallel a b)
  | .status => (parStatus l a b, .parallel a b)
  | .control => (parControl l a b, .parallel a b)

/-- A write to a port's data register (rules R354, R355). -/
def portWriteData (p : PortState) (v readOnly : Byte) : PortState :=
  { p with out := writeMasked p.out v readOnly, hs := false }

/-- A write to a port's direction register (rule R354). -/
def portWriteDdr (p : PortState) (v readOnly : Byte) : PortState :=
  { p with ddr := writeMasked p.ddr v readOnly }

/-- The request a port write makes of the outside (rules R354, R363). -/
def portRequest (chip : Nat) (n : Port) (p : PortState) : OutEvent :=
  .portOut chip n (portLevels p) p.ddr

/-- A core write of a parallel register: the chip after it and the request it makes (rules R354, R361). -/
def parWrite (l : ParLayout) (chip : Nat) (a b : PortState) (v : Byte) (r : ParReg) : IfUnit × List OutEvent :=
  let ro := parReadOnly l r
  match r with
  | .data .a =>
    let a' := portWriteData a v ro
    (.parallel a' b, [portRequest chip .a a'])
  | .data .b =>
    let b' := portWriteData b v ro
    (.parallel a b', [portRequest chip .b b'])
  | .ddr .a =>
    let a' := portWriteDdr a v ro
    (.parallel a' b, [portRequest chip .a a'])
  | .ddr .b =>
    let b' := portWriteDdr b v ro
    (.parallel a b', [portRequest chip .b b'])
  | .status => (.parallel a b, [])
  | .control =>
    let k := writeMasked (parControl l a b) v ro
    (.parallel { a with ie := k.getLsbD l.ieA } { b with ie := k.getLsbD l.ieB }, [])

/-! ## Serial registers -/

/-- The `STATUS` byte of a serial chip (rule R357). -/
def serStatus (l : SerLayout) (u : Serial) : Byte :=
  bitByte l.rxFull u.rxFull ||| bitByte l.txEmpty u.txEmpty ||| bitByte l.overrun u.overrun |||
    bitByte l.irq (ifIrq (.serial u))

/-- The `CONTROL` byte that a serial chip's enables stand for (rule R357). -/
def serControl (l : SerLayout) (u : Serial) : Byte :=
  bitByte l.rxIe u.rxIe ||| bitByte l.txIe u.txIe

/-- A core read of a serial register: the byte and the chip after it; a write-only register gives the
open-bus value (rule R357). A read of `RX_DATA` clears `overrun` also where `rx_full` is 0: DESIGN CHOICE,
notes/assumptions/43.md. -/
def serRead (c : Config) (l : SerLayout) (u : Serial) : SerReg → Byte × Serial
  | .status => (serStatus l u, u)
  | .rxData => (u.rxData, { u with rxFull := false, overrun := false })
  | .control => (c.openBus, u)
  | .txData => (c.openBus, u)

/-- A core write of a serial register (rules R356, R357, R361). -/
def serWrite (c : Config) (l : SerLayout) (u : Serial) (v : Byte) (r : SerReg) : Serial :=
  let ro := (l.readOnly.lookup r).getD 0#8
  match r with
  | .txData => { u with txData := writeMasked u.txData v ro, txEmpty := false, txTimer := c.serialTxTicks }
  | .control =>
    let k := writeMasked (serControl l u) v ro
    { u with rxIe := k.getLsbD l.rxIe, txIe := k.getLsbD l.txIe }
  | .status => u
  | .rxData => u

/-! ## Bus accesses by offset -/

/-- The register at an offset; offsets repeat (rule R351). -/
def registerAt {α : Type} (regs : List (Option α)) (offset : Nat) : Option α :=
  regs.getD (offset % regs.length) none

/-- The configuration of chip `k`; a chip the configuration does not describe has the default layout of
its kind. -/
def ifKind (c : Config) (k : Nat) (u : IfUnit) : IfKind :=
  match c.ifChips[k]?, u with
  | some ⟨.parallel l, _⟩, .parallel _ _ => .parallel l
  | some ⟨.serial l, _⟩, .serial _ => .serial l
  | _, .parallel _ _ => .parallel .default
  | _, .serial _ => .serial .default

/-- A core read of an Interface Chip at a bus offset (rules R351, R354, R357). An offset without a
readable register gives the open-bus value. -/
def ifRead (c : Config) (k offset : Nat) (u : IfUnit) : Byte × IfUnit :=
  match ifKind c k u, u with
  | .parallel l, .parallel a b =>
    match registerAt l.reads offset with
    | some r => parRead l a b r
    | none => (c.openBus, u)
  | .serial l, .serial w =>
    match registerAt l.reads offset with
    | some r => let q := serRead c l w r; (q.1, .serial q.2)
    | none => (c.openBus, u)
  | _, _ => (c.openBus, u)

/-- A core write of an Interface Chip at a bus offset (rules R351, R354, R357, R361). -/
def ifWrite (c : Config) (k offset : Nat) (v : Byte) (u : IfUnit) : IfUnit × List OutEvent :=
  match ifKind c k u, u with
  | .parallel l, .parallel a b =>
    match registerAt l.writes offset with
    | some r => parWrite l k a b v r
    | none => (u, [])
  | .serial l, .serial w =>
    match registerAt l.writes offset with
    | some r => (.serial (serWrite c l w v r), [])
    | none => (u, [])
  | _, _ => (u, [])

/-! ## External events -/

/-- The effect of an event on a port's pins (rule R358). -/
def portPins (p : PortState) (mask value : Byte) : PortState :=
  { p with pin := (p.pin &&& ~~~mask) ||| (value &&& mask) }

/-- A received byte (rule R357). -/
def serReceive (u : Serial) (b : Byte) : Serial :=
  if u.rxFull then { u with overrun := true } else { u with rxData := b, rxFull := true }

/-- Applies an event (rule R358); an event of the other kind of chip has no effect. -/
def applyEvent (u : IfUnit) (e : IfEvent) : IfUnit :=
  match u, e with
  | .parallel a b, .pinLevel .a mask value => .parallel (portPins a mask value) b
  | .parallel a b, .pinLevel .b mask value => .parallel a (portPins b mask value)
  | .parallel a b, .strobe .a => .parallel { a with hs := true } b
  | .parallel a b, .strobe .b => .parallel a { b with hs := true }
  | .serial w, .serialRx b => .serial (serReceive w b)
  | u, _ => u

/-- Appends an event to a bounded queue: a full queue drops its oldest entry (rule R359). The flag says
whether one was dropped. -/
def enqueue (depth : Nat) (q : List IfEvent) (e : IfEvent) : List IfEvent × Bool :=
  if depth ≤ q.length then (q.drop (q.length + 1 - depth) ++ [e], true) else (q ++ [e], false)

/-- A producer appends an event to the queue of a chip (rule R359); an event for a chip that is not there
reaches none. -/
def queueEvent (s : State) (e : Nat × IfEvent) : State :=
  match s.ifChips[e.1]? with
  | none => s
  | some chip =>
    let q := enqueue s.cfg.eventQueueDepth chip.queue e.2
    { s with
      ifChips := s.ifChips.set e.1 { chip with queue := q.1 }
      sched := { s.sched with droppedEvents := s.sched.droppedEvents + q.2.toNat } }

/-- The tick boundary of one chip: at most one event, the oldest, is latched and applied (rule R359). -/
def deliverEvent (chip : IfChip) : IfChip :=
  match chip.queue with
  | [] => { chip with extLatch := none }
  | e :: q => { unit := applyEvent chip.unit e, queue := q, extLatch := some e }

/-! ## The per-tick update -/

/-- The serial transmit of one tick: the chip after it, and whether the byte left (rules R356, R362). -/
def serTransmit (u : Serial) : Serial × Bool :=
  if u.txEmpty then (u, false)
  else if u.txTimer = 0 then ({ u with txEmpty := true }, true)
  else ({ u with txTimer := u.txTimer - 1 }, false)

/-- The per-tick update of chip `k` (rule R362). -/
def ifTick (k : Nat) (chip : IfChip) : IfChip × List OutEvent :=
  match chip.unit with
  | .parallel _ _ => (chip, [])
  | .serial u =>
    let t := serTransmit u
    ({ chip with unit := .serial t.1 }, if t.2 then [.serialTx k u.txData] else [])

/-- The per-tick update of chip `k` in the machine (rule R362). -/
def ifTickAt (s : State) (k : Nat) : State :=
  match s.ifChips[k]? with
  | none => s
  | some chip =>
    let t := ifTick k chip
    { s with ifChips := s.ifChips.set k t.1, output := t.2 ++ s.output }

/-- The chips in the order of their `ADDRESS_MAP` entries (rule R70). A chip with more than one entry stands at the
first of them, and the chips without an entry stand last: DESIGN CHOICE, notes/assumptions/41.md. -/
def ifOrder (c : Config) : List Nat :=
  let mapped := (c.addressMap.filterMap fun e => match e.owner with
    | .ifChip k => some k
    | _ => none).eraseDups
  mapped ++ (List.range c.ifChips.length).filter fun k => !mapped.contains k

end Sys2Proof.Machine
end

