-- ==== Sys2Proof/Machine/Disk.lean ====
section
/-! DEFINITION. Sys2Proof/Machine/Disk.lean: the Disk Image Store (spec/54_disk_image_store.md): two access
functions, the CRC function, and the insertion and removal of images. -/

namespace Sys2Proof.Machine

/-! ## CRC -/

/-- One bit of the reference CRC: polynomial 0x1021, most significant bit first (rule R404). -/
def crcShift (c : BitVec 16) : BitVec 16 :=
  if c.msb then (c <<< 1) ^^^ 0x1021#16 else c <<< 1

/-- One byte of the reference CRC. -/
def crcByte (c : BitVec 16) (b : Byte) : BitVec 16 :=
  (List.range 8).foldl (fun c _ => crcShift c) (c ^^^ (b ++ 0#8))

/-- `CRC_FN` (rule R404): a function from a payload to `CRC_BITS` bits. -/
def crcOf (c : DiskCfg) (payload : List Byte) : Nat :=
  (match c.crcFn with
    | .free => Config.openCrc payload
    | .ccitt => (payload.foldl crcByte 0xFFFF#16).toNat
    | .byteSum => payload.foldl (fun n b => n + b.toNat) 0) % 2 ^ c.crcBits

/-! ## Access -/

/-- `TRACKS(d)` (rule R400): part of the configuration, whether or not an image is in the drive. -/
def tracksOf (c : DiskCfg) (d : Nat) : Nat :=
  (c.geometry.getD d ⟨0, 0⟩).tracks

/-- `SECTORS(d)` (rule R400). -/
def sectorsOf (c : DiskCfg) (d : Nat) : Nat :=
  (c.geometry.getD d ⟨0, 0⟩).sectors

/-- The image in drive `d`, if there is one. -/
def imageOf (drives : List (Option Image)) (d : Nat) : Option Image :=
  (drives[d]?).join

/-- `ready(d)` (rule R393); the drives are as many as the configuration's geometries. -/
def driveReady (drives : List (Option Image)) (d : Nat) : Bool :=
  (imageOf drives d).isSome

/-- The sector at a place of an image. -/
def imageSector (i : Image) (track sector : Nat) : Option Sector :=
  (i[track]?).bind fun t => t[sector]?

/-- Replaces the sector at a place of an image. -/
def imageSet (i : Image) (track sector : Nat) (x : Sector) : Image :=
  i.set track ((i.getD track []).set sector x)

/-- `readSector` (rule R401); `none` is `NotFound`. -/
def readSector (c : DiskCfg) (drives : List (Option Image)) (d track sector : Nat) : Option Sector :=
  match imageOf drives d with
  | none => none
  | some i => if track < tracksOf c d ∧ sector < sectorsOf c d then imageSector i track sector else none

/-- `writeSector` (rule R402): the drives after it, and whether it answered `ok`. -/
def writeSector (c : DiskCfg) (drives : List (Option Image)) (d track sector : Nat) (payload : List Byte)
    (crc : Nat) : List (Option Image) × Bool :=
  match imageOf drives d with
  | none => (drives, false)
  | some i =>
    if track < tracksOf c d ∧ sector < sectorsOf c d ∧ payload.length = c.bytesPerSector then
      (drives.set d (some (imageSet i track sector ⟨payload, crc⟩)), true)
    else (drives, false)

/-- The calls of a format, sector after sector (rule R394): every one is made; the flag says whether all
answered `ok`. -/
def writeSectors (c : DiskCfg) (d track : Nat) (payload : List Byte) (crc : Nat) :
    List Nat → List (Option Image) → List (Option Image) × Bool
  | [], drives => (drives, true)
  | n :: ns, drives =>
    let here := writeSector c drives d track n payload crc
    let others := writeSectors c d track payload crc ns here.1
    (others.1, here.2 && others.2)

/-- A sector is there and its stored CRC is that of its payload (rule R383). -/
def sectorSound (c : DiskCfg) (drives : List (Option Image)) (d track sector : Nat) : Bool :=
  match readSector c drives d track sector with
  | none => false
  | some x => crcOf c x.payload == x.crc

/-! ## Insertion and removal -/

/-- An external drive event at a tick boundary (rules R393, R406). An image that does not have the
drive's geometry is no image of this machine (rule R400): it is not inserted; one inserted into a drive that
holds an image takes its place (notes/assumptions/22.md). -/
def applyDriveEvent (c : DiskCfg) (drives : List (Option Image)) : DriveEvent → List (Option Image)
  | .remove d => drives.set d none
  | .insert d i =>
    match c.geometry[d]? with
    | some g => if c.fits g i then drives.set d (some i) else drives
    | none => drives

end Sys2Proof.Machine
end

