-- ==== Sys2Proof/Machine/Floppy.lean ====
section
/-! DEFINITION. Sys2Proof/Machine/Floppy.lean: the Floppy Controller (spec/53_floppy_controller.md). -/

namespace Sys2Proof.Machine

/-! ## Status -/

/-- The busy states (rule R370). -/
def fdcBusy : FdcState → Bool
  | .seeking | .transferring | .verifying => true
  | .idle | .error | .done => false

/-- The interrupt output (rule R388). -/
def fdcIrq (c : FdcCfg) (f : Fdc) : Bool :=
  f.irqDone || (c.drqIrq && f.drq)

/-- The `STATUS` byte (rule R374). -/
def fdcStatus (c : FdcCfg) (f : Fdc) : Byte :=
  let l := c.layout
  bitByte l.busy (fdcBusy f.state) ||| bitByte l.rejected f.rejected ||| bitByte l.lostData f.lostData |||
    bitByte l.error (f.state == .error) ||| bitByte l.done (f.state == .done) ||| bitByte l.drq f.drq |||
    bitByte l.irq (fdcIrq c f)

/-- The `RESULT` byte (rule R374). -/
def fdcResultByte (c : FdcCfg) (r : FdcResult) : Byte :=
  let codes := c.layout.results
  match r with
  | .none => codes.none
  | .ok => codes.ok
  | .seekFault => codes.seekFault
  | .crcError => codes.crcError
  | .notFound => codes.notFound
  | .notReady => codes.notReady
  | .badCommand => codes.badCommand

/-! ## Completion -/

/-- `finish()` (rule R376): of the command record only the result survives (rule R372). -/
def fdcFinish (f : Fdc) : Fdc :=
  { f with state := .done, cmd := none, result := .ok, drq := false, irqDone := true }

/-- `fail(code)` (rule R376). -/
def fdcFail (c : FdcCfg) (code : FdcResult) (f : Fdc) : Fdc :=
  { f with state := .error, cmd := none, result := code, drq := false, irqDone := f.irqDone || c.errorIrq }

/-! ## Bus accesses -/

/-- The target of a command is outside the geometry of its drive (rules R376, R377). -/
def fdcOutOfRange (c : DiskCfg) (k : FdcCmd) : Bool :=
  decide (tracksOf c k.drive ≤ k.track) ||
    ((k.kind == .read || k.kind == .write || k.kind == .verify) && decide (sectorsOf c k.drive ≤ k.sector))

/-- A command write, the controller at rest (rule R376). -/
def fdcAccept (c : Config) (drives : List (Option Image)) (v : Byte) (f : Fdc) : Fdc :=
  let f' := { f with rejected := false, lostData := false, drq := false, irqDone := false, result := .none }
  match c.fdc.layout.codes.lookup v with
  | none => fdcFail c.fdc .badCommand f'
  | some kind =>
    let k : FdcCmd := ⟨kind, f.drive.toNat, f.track.toNat, f.sector.toNat, 0⟩
    if driveReady drives k.drive then
      if fdcOutOfRange c.disk k then fdcFail c.fdc .seekFault f'
      else { f' with cmd := some k, state := .seeking, delay := c.fdc.seekDelay }
    else fdcFail c.fdc .notReady f'

/-- `FDC.command_write(v)` (rules R376, R392). -/
def fdcCommand (c : Config) (drives : List (Option Image)) (v : Byte) (f : Fdc) : Fdc :=
  if fdcBusy f.state then { f with rejected := true } else fdcAccept c drives v f

/-- A read of `RESULT` acknowledges (rule R375). -/
def fdcAcknowledge (f : Fdc) : Fdc :=
  { f with irqDone := false, state := if fdcBusy f.state then f.state else .idle }

/-- A core read at a bus offset: the byte and the controller after it (rules R371, R375). -/
def fdcRead (c : Config) (offset : Nat) (f : Fdc) : Byte × Fdc :=
  match registerAt c.fdc.layout.reads offset with
  | some .status => (fdcStatus c.fdc f, f)
  | some .result => (fdcResultByte c.fdc f.result, fdcAcknowledge f)
  | some .track => (f.track, f)
  | some .sector => (f.sector, f)
  | some .drive => (f.drive, f)
  | some .data => (f.dataReg, { f with drq := false })
  | some .command => (c.openBus, f)
  | none => (c.openBus, f)

/-- A core write at a bus offset (rules R371, R375). -/
def fdcWrite (c : Config) (drives : List (Option Image)) (offset : Nat) (v : Byte) (f : Fdc) : Fdc :=
  match registerAt c.fdc.layout.writes offset with
  | some .command => fdcCommand c drives v f
  | some .track => { f with track := v }
  | some .sector => { f with sector := v }
  | some .drive => { f with drive := v }
  | some .data => { f with dataReg := v, drq := false }
  | some .status => f
  | some .result => f
  | none => f

/-! ## The per-tick update -/

/-- The payload a format writes (rule R394). -/
def fdcFill (c : Config) : List Byte :=
  List.replicate c.disk.bytesPerSector c.fdc.layout.formatFill

/-- `load()` (rules R380, R394): the controller after it, and whether the sector was there. -/
def fdcLoad (c : Config) (drives : List (Option Image)) (k : FdcCmd) (f : Fdc) : Fdc × Bool :=
  match readSector c.disk drives k.drive k.track k.sector with
  | none => (fdcFail c.fdc .notFound f, false)
  | some x => ({ f with buffer := x.payload, storedCrc := x.crc }, true)

/-- `start_read()` (rule R394). -/
def fdcStartRead (c : FdcCfg) (f : Fdc) : Fdc :=
  { f with state := .transferring, byteIndex := 0, byteTimer := c.byteTicks }

/-- `load()` followed, if the sector was there, by `next` (rule R394). -/
def fdcLoadThen (c : Config) (drives : List (Option Image)) (k : FdcCmd) (next : Fdc → Fdc) (f : Fdc) : Fdc :=
  let l := fdcLoad c drives k f
  if l.2 then next l.1 else l.1

/-- `begin()` (rules R378, R394). -/
def fdcBegin (c : Config) (drives : List (Option Image)) (k : FdcCmd) (f : Fdc) : Fdc :=
  match k.kind with
  | .seek => fdcFinish f
  | .read => fdcLoadThen c drives k (fdcStartRead c.fdc) f
  | .verify => fdcLoadThen c drives k (fun f => { f with state := .verifying }) f
  | .write => { f with state := .transferring, byteIndex := 0, drq := true, byteTimer := c.fdc.byteTicks }
  | .format =>
    { f with
      state := .transferring
      byteIndex := 0
      byteTimer := sectorsOf c.disk k.drive * c.disk.bytesPerSector * c.fdc.byteTicks }

/-- `commit()` (rules R382, R394): the only moment an image changes. -/
def fdcCommit (c : Config) (drives : List (Option Image)) (k : FdcCmd) (f : Fdc) : Fdc × List (Option Image) :=
  let r :=
    if k.kind = .format then
      let fill := fdcFill c
      writeSectors c.disk k.drive k.track fill (crcOf c.disk fill) (List.range (sectorsOf c.disk k.drive)) drives
    else writeSector c.disk drives k.drive k.track k.sector f.buffer (crcOf c.disk f.buffer)
  (if r.2 then f else fdcFail c.fdc .notFound f, r.1)

/-- `commit()`, then `Verifying` unless it failed (rule R394). -/
def fdcCommitVerify (c : Config) (drives : List (Option Image)) (k : FdcCmd) (f : Fdc) : Fdc × List (Option Image) :=
  let r := fdcCommit c drives k f
  (if r.1.state = .error then r.1 else { r.1 with state := .verifying }, r.2)

/-- The slot of a read (rules R381, R394). -/
def fdcReadSlot (c : Config) (f : Fdc) : Fdc :=
  if f.byteIndex < c.disk.bytesPerSector then
    { f with
      lostData := f.lostData || f.drq
      dataReg := f.buffer.getD f.byteIndex 0#8
      drq := true
      byteIndex := f.byteIndex + 1
      byteTimer := c.fdc.byteTicks }
  else { f with state := .verifying }

/-- The slot of a write (rules R382, R394). With `BYTES_PER_SECTOR = 0` there is no `buffer[0]`: the store is dropped
and the command commits (DESIGN CHOICE, notes/assumptions/45.md). -/
def fdcWriteSlot (c : Config) (drives : List (Option Image)) (k : FdcCmd) (f : Fdc) : Fdc × List (Option Image) :=
  let f' := { f with
    lostData := f.lostData || f.drq
    buffer := f.buffer.set f.byteIndex f.dataReg
    byteIndex := f.byteIndex + 1 }
  if f'.byteIndex < c.disk.bytesPerSector then ({ f' with drq := true, byteTimer := c.fdc.byteTicks }, drives)
  else fdcCommitVerify c drives k { f' with drq := false }

/-- `slot()` (rule R394). -/
def fdcSlot (c : Config) (drives : List (Option Image)) (k : FdcCmd) (f : Fdc) : Fdc × List (Option Image) :=
  match k.kind with
  | .read => (fdcReadSlot c f, drives)
  | .write => fdcWriteSlot c drives k f
  | .format => fdcCommitVerify c drives k f
  | .seek | .verify => (f, drives)

/-- The test of `verify()` (rules R383, R394). -/
def fdcVerified (c : Config) (drives : List (Option Image)) (k : FdcCmd) (f : Fdc) : Bool :=
  match k.kind with
  | .read | .verify | .seek => crcOf c.disk f.buffer == f.storedCrc
  | .write => sectorSound c.disk drives k.drive k.track k.sector
  | .format => (List.range (sectorsOf c.disk k.drive)).all fun n => sectorSound c.disk drives k.drive k.track n

/-- The retry of `verify()`, the retry count already raised (rules R384, R394). -/
def fdcRetry (c : Config) (drives : List (Option Image)) (k : FdcCmd) (f : Fdc) : Fdc × List (Option Image) :=
  match k.kind with
  | .read => (fdcLoadThen c drives k (fdcStartRead c.fdc) f, drives)
  | .verify | .seek => ((fdcLoad c drives k f).1, drives)
  | .write | .format => fdcCommit c drives k f

/-- `verify()` (rules R383, R384, R394). A write or format whose image has gone and that has no retry left ends in
`CrcError`, as the pseudocode of R394 says and not the sentence of R393 (notes/assumptions/40.md). -/
def fdcVerify (c : Config) (drives : List (Option Image)) (k : FdcCmd) (f : Fdc) : Fdc × List (Option Image) :=
  if fdcVerified c drives k f then (fdcFinish f, drives)
  else if k.retryCount < c.fdc.maxRetries then
    let k' := { k with retryCount := k.retryCount + 1 }
    fdcRetry c drives k' { f with cmd := some k' }
  else (fdcFail c.fdc .crcError f, drives)

/-- The update of a controller that runs a command (rules R379, R394). -/
def fdcBusyTick (c : Config) (drives : List (Option Image)) (k : FdcCmd) (f : Fdc) : Fdc × List (Option Image) :=
  match f.state with
  | .idle | .done | .error => (f, drives)
  | .seeking =>
    if 0 < f.delay then ({ f with delay := f.delay - 1 }, drives)
    else (fdcBegin c drives k { f with currentTrack := f.currentTrack.set k.drive k.track }, drives)
  | .transferring =>
    if 1 < f.byteTimer then ({ f with byteTimer := f.byteTimer - 1 }, drives) else fdcSlot c drives k f
  | .verifying => fdcVerify c drives k f

/-- `FDC.update()` (rule R394). -/
def fdcTick (c : Config) (drives : List (Option Image)) (f : Fdc) : Fdc × List (Option Image) :=
  match f.cmd with
  | none => (f, drives)
  | some k => fdcBusyTick c drives k f

/-- The controller's update in the machine (rules R70, R394). -/
def fdcUpdate (s : State) : State :=
  let t := fdcTick s.cfg s.drives s.fdc
  { s with fdc := t.1, drives := t.2 }

end Sys2Proof.Machine
end

