-- ==== Sys2Proof/Machine/Ops.lean ====
section
/-! DEFINITION. Sys2Proof/Machine/Ops.lean: the shared operations: a bus access, the tick boundary, the
chips' updates, one tick of a bus pattern, running an instruction, taking an interrupt (one operation for
IRQ, NMI and RESET) and the pattern of the return from one. -/

namespace Sys2Proof.Machine

/-! ## Bus accesses -/

/-- Adds a transaction to the trace (rule R60). -/
def State.logBus (s : State) (t : Transaction) : State :=
  { s with bus := t :: s.bus }

/-- Counts an access to an unmapped address (rules R37, R65). -/
def State.countUnmapped (s : State) : State :=
  { s with sched := { s.sched with unmappedCount := s.sched.unmappedCount + 1 } }

/-- The owner's response to a core read (rule R64). -/
def resolveRead (a : Addr) (s : State) : Byte × State :=
  match mapEntry s.cfg a with
  | none => (s.cfg.openBus, s.countUnmapped)
  | some e =>
    let offset := a.toNat - e.lo
    match e.owner with
    | .ram => (s.peek a, s)
    | .rom => (s.peek a, s)
    | .bank k => (bankByte s.cfg s.banks k a, s)
    | .bankSelect k => (bankSelectByte s.cfg s.banks k, s)
    | .vtg => (vtgRead s.cfg offset s.vtg, s)
    | .mixer => (mixerRegRead s.cfg offset s.mixer.regs, s)
    | .fdc =>
      let r := fdcRead s.cfg offset s.fdc
      (r.1, { s with fdc := r.2 })
    | .ifChip k =>
      match s.ifChips[k]? with
      | none => (s.cfg.openBus, s)
      | some chip =>
        let r := ifRead s.cfg k offset chip.unit
        (r.1, { s with ifChips := s.ifChips.set k { chip with unit := r.2 } })

/-- The owner's response to a core write (rule R64): a read-only region ignores it, an unmapped address
drops it (rule R65). -/
def resolveWrite (a : Addr) (v : Byte) (s : State) : State :=
  match mapEntry s.cfg a with
  | none => s.countUnmapped
  | some e =>
    let offset := a.toNat - e.lo
    match e.owner with
    | .ram => { s with mem := Memory.write s.mem a.toNat v }
    | .rom => s
    | .bank _ => { s with banks := storeBanks s.cfg s.banks a v }
    | .bankSelect _ => { s with banks := storeBanks s.cfg s.banks a v }
    | .vtg => { s with vtg := vtgWrite s.cfg.vtg offset v s.vtg }
    | .mixer => { s with mixer := { s.mixer with regs := mixerWrite s.cfg.mixer offset v s.mixer.regs } }
    | .fdc => { s with fdc := fdcWrite s.cfg s.drives offset v s.fdc }
    | .ifChip k =>
      match s.ifChips[k]? with
      | none => s
      | some chip =>
        let r := ifWrite s.cfg k offset v chip.unit
        { s with
          ifChips := s.ifChips.set k { chip with unit := r.1 }
          output := r.2.reverse ++ s.output }

/-- `MemRead(a, 1)` by the core (rules R9, R64). -/
def busRead (a : Addr) (s : State) : Byte × State :=
  let r := resolveRead a s
  (r.1, r.2.logBus ⟨a, false, r.1, .core⟩)

/-- `MemWrite(a, 1, v)` by the core (rules R9, R64). -/
def busWrite (a : Addr) (v : Byte) (s : State) : State :=
  (resolveWrite a v s).logBus ⟨a, true, v, .core⟩

/-! ## The tick boundary -/

/-- Whether a latched line is asserted: the OR of its drivers (rule R414). -/
def lineAsserted (ls : List (Line × Driver)) (l : Line) : Bool :=
  ls.any fun d => d.1 == l

/-- Routing of the latched lines into the pending flags (rule R419). -/
def routeLines (ls : List (Line × Driver)) (p : Pending) : Pending :=
  let nmi := lineAsserted ls .nmi
  { irqLatched := lineAsserted ls .irq
    nmiLinePrev := nmi
    nmiPending := p.nmiPending || (nmi && !p.nmiLinePrev)
    resetPending := p.resetPending || lineAsserted ls .reset }

/-- The level of a pin of a parallel chip as the chip drives it (rules R354, R363). -/
def portPin (chips : List IfChip) (k : Nat) (p : Port) (bit : Nat) : Bool :=
  match (chips[k]?).map IfChip.unit with
  | some (.parallel a b) => (portLevels (match p with | .a => a | .b => b)).getLsbD bit
  | _ => false

/-- The level of a signal that may be wired to an Interface Chip (rule R358). -/
def signalLevel (s : State) : Signal → Bool
  | .hsync => s.vtg.hsync
  | .vsync => s.vtg.vsync
  | .displayEnable => s.vtg.displayEnable
  | .lineStart => s.vtg.lineStart
  | .frameStart => s.vtg.frameStart
  | .fdcIrq => fdcIrq s.cfg.fdc s.fdc
  | .fdcDrq => s.fdc.drq
  | .ifIrq k => ((s.ifChips[k]?).map fun chip => ifIrq chip.unit).getD false
  | .portPin k p bit => portPin s.ifChips k p bit

/-- The levels of the wires' signals at a boundary (rule R358). -/
def wireLevels (s : State) : List Bool :=
  s.cfg.wires.map fun w => signalLevel s w.signal

/-- The events of the wires whose signal has changed to their level since the last boundary (rule R358), in the
order of the configuration's wires (notes/assumptions/19.md). -/
def wireEvents : List Wire → (old new : List Bool) → List (Nat × IfEvent)
  | w :: ws, o :: os, n :: ns =>
    if n == w.level && o != w.level then (w.chip, w.event) :: wireEvents ws os ns else wireEvents ws os ns
  | _, _, _ => []

/-- What the outside does at the coming boundary; after the end of the script, nothing. -/
def State.nextInput (s : State) : TickInput :=
  s.input.headD ⟨[], [], []⟩

/-- The state with the coming boundary's entry of the script taken off. -/
def State.dropInput (s : State) : State :=
  { s with input := s.input.tail }

/-- The scheduler's part of the boundary: time, the latched lines, the environment's lines (rules R35,
R70, R72, R419). -/
def boundaryLines (lines : List Line) (s : State) : State :=
  { s with
    cpu := { s.cpu with pend := routeLines s.sched.linesOut s.cpu.pend }
    sched := { s.sched with
      tickCount := s.sched.tickCount + 1
      linesLatched := s.sched.linesOut
      envLines := lines
      signals := wireLevels s } }

/-- Hands each chip at most one event, the oldest of its queue (rules R73, R359). -/
def deliverEvents (s : State) : State :=
  { s with ifChips := s.ifChips.map deliverEvent }

/-- Applies the drive events of a boundary (rules R393, R406). -/
def changeDrives (es : List DriveEvent) (s : State) : State :=
  { s with drives := es.foldl (applyDriveEvent s.cfg.disk) s.drives }

/-- The tick boundary with what the outside does at it (rules R13, R70, R73): the lines are latched and routed, the
producers' and the wires' events join the queues, each chip receives its oldest event, drives change. -/
def boundaryOn (i : TickInput) (s : State) : State :=
  let events := i.events ++ wireEvents s.cfg.wires s.sched.signals (wireLevels s)
  changeDrives i.drives (deliverEvents (events.foldl queueEvent (boundaryLines i.lines s)))

/-- The tick boundary, the outside acting by the script of the state (notes/assumptions/3.md). -/
def boundary (s : State) : State :=
  boundaryOn s.nextInput s.dropInput

/-! ## The other chips of a tick -/

/-- The line an Interface Chip drives (rule R360). -/
def ifLine (c : Config) (k : Nat) : Line :=
  match c.ifChips[k]? with
  | some i => i.line
  | none => .irq

/-- What the Interface Chips from number `k` on drive (rules R360, R414). -/
def ifDrivers (c : Config) : Nat → List IfChip → List (Line × Driver)
  | _, [] => []
  | k, chip :: rest => (if ifIrq chip.unit then [(ifLine c k, .ifChip k)] else []) ++ ifDrivers c (k + 1) rest

/-- `irq_lines_out` at the end of a tick (rules R72, R414, R446). -/
def drivenLines (s : State) : List (Line × Driver) :=
  ifDrivers s.cfg 0 s.ifChips ++ (if fdcIrq s.cfg.fdc s.fdc then [(s.cfg.fdc.line, .fdc)] else []) ++
    s.sched.envLines.map fun l => (l, .environment)

/-- The drivers write `irq_lines_out` (rule R72). -/
def driveLines (s : State) : State :=
  { s with sched := { s.sched with linesOut := drivenLines s } }

/-- A chip with divider `k` acts on one tick in `k` (rule R71): on those whose number `k` divides
(notes/assumptions/24.md). -/
def acts (k tick : Nat) : Bool :=
  tick % k == 0

/-- The divider of Interface Chip `k` (rule R71); a well-formed configuration has one for each chip. -/
def ifDivider (c : Config) (k : Nat) : Nat :=
  c.clockRates.ifChips.getD k 1

/-- Interface Chip `k`'s part of a tick: its update, or nothing in a tick in which it idles (rules R71, R362). -/
def ifTurnAt (s : State) (k : Nat) : State :=
  if acts (ifDivider s.cfg k) s.sched.tickCount then ifTickAt s k else s

/-- The Interface Chips' parts of a tick, each by its own divider (rules R70, R71). -/
def ifTurns (s : State) : State :=
  (ifOrder s.cfg).foldl ifTurnAt s

/-- A chip's part of a tick: its update, or what it does in a tick in which it idles (rules R70, R71). -/
def chipTurn (s : State) : Chip → State
  | .vtg => if acts s.cfg.clockRates.vtg s.sched.tickCount then vtgUpdate s else vtgIdle s
  | .mixer => if acts s.cfg.clockRates.mixer s.sched.tickCount then mixerUpdate s else s
  | .ifChips => ifTurns s
  | .fdc => if acts s.cfg.clockRates.fdc s.sched.tickCount then fdcUpdate s else s

/-- The chips' parts of a tick, in order (rule R70). -/
def chipTurns (ks : List Chip) (s : State) : State :=
  ks.foldl chipTurn s

/-- What of a tick stands before the core's update (rule R70). -/
def beforeCore (s : State) : State :=
  chipTurns s.cfg.tickOrder.before s

/-- What of a tick follows the core's update (rules R70, R72). -/
def afterCore (s : State) : State :=
  driveLines (chipTurns s.cfg.tickOrder.after s)

/-- One tick whose core update is `act` (rule R70). -/
def tickWith (act : State → State) (s : State) : State :=
  afterCore (act (beforeCore (boundary s)))

/-! ## The core's turns -/

/-- How many ticks the core idles after tick `n` before it acts again (rule R71): none, with the divider 1. -/
def coreIdle (c : Config) (n : Nat) : Nat :=
  c.clockRates.core - 1 - n % c.clockRates.core

/-- Ticks in which the core idles. -/
def idleTicks : Nat → State → State
  | 0, s => s
  | n + 1, s => idleTicks n (tickWith (fun t => t) s)

/-- The state before the tick in which the core acts next. -/
def turnStart (s : State) : State :=
  idleTicks (coreIdle s.cfg s.sched.tickCount) s

/-- What the core's next update finds: the boundary of its tick and the chips before it (rules R70, R420). -/
def coreView (s : State) : State :=
  beforeCore (boundary (turnStart s))

/-- The ticks up to and with the one in which the core makes the update `act` (rules R70, R71). -/
def turnWith (act : State → State) (s : State) : State :=
  tickWith act (turnStart s)

/-! ## One tick of a bus pattern -/

/-- An instruction as the patterns run it (rule R132): the ticks after T1 and the instruction's own
operation, as the `exec`, `val`, `f` or branch condition its pattern uses. -/
structure Micro where
  cycles : List Cycle
  exec   : Regs → Byte → Regs := fun r _ => r
  val    : Regs → Byte := fun _ => 0#8
  f      : Regs → Byte → Byte × Regs := fun r v => (v, r)
  cond   : Regs → Bool := fun _ => false

/-- The operation of no instruction (rules R287, R425). -/
def Micro.nothing (cs : List Cycle) : Micro :=
  { cycles := cs }

/-- An index register. -/
def indexOf (r : Regs) : Index → Byte
  | .x => r.x
  | .y => r.y

/-- The low vector address of a kind: 0xFFFA, 0xFFFC and 0xFFFE by the table (rules R7, R424). -/
def vectorOf (c : Config) : SeqKind → Addr
  | .nmi => c.vectors.nmi
  | .reset => c.vectors.reset
  | .irq => c.vectors.irq

/-- The address that the latches give (rules R135, R140). -/
def latchAddr (l : Latches) : Space → Addr
  | .zeroPage => join 0#8 l.adl
  | .absolute => join l.adh l.adl

/-- Whether adding two bytes carries (rules R142, R147). -/
def byteCarry (a b : Byte) : Bool :=
  decide (256 ≤ a.toNat + b.toNat)

/-- The address of a tick's transaction (rules R133 to R159, R425). The high byte of a vector configured at 0xFFFF is
read at 0x0000: DESIGN CHOICE, notes/assumptions/47.md. -/
def cycleAddr (cfg : Config) (c : Cycle) (u : Cpu) : Addr :=
  match c with
  | .implied | .immediate | .fetchAdl | .fetchAdh | .fetchAdhIndexed _ | .fetchPtr => u.pc
  | .branchTest | .branchTake | .branchFix | .discardPc | .skipPc | .returnNext | .fetchAdhJump | .enter _ => u.pc
  | .indexZeroPage _ => join 0#8 u.latch.adl
  | .indexPtr | .readPtrLow => join 0#8 u.latch.ptr
  | .readPtrHigh | .readPtrHighIndexed => join 0#8 (u.latch.ptr + 1#8)
  | .readExec sp | .writeVal sp | .readDl sp | .writeDl sp | .writeModified sp => latchAddr u.latch sp
  | .readOrFix | .readFix => latchAddr u.latch .absolute
  | .pushVal | .stackPeek | .stackNext | .pullExec | .pullFlags | .pullPcl | .pullPch => stackAddr cfg u.regs.s
  | .pushPch | .pushPcl | .pushStatus _ | .stackSkip => stackAddr cfg u.regs.s
  | .jumpPointer => join u.latch.adh (u.latch.adl + 1#8)
  | .vectorLow k => vectorOf cfg k
  | .vectorHigh k => vectorOf cfg k + 1#16

/-- The byte that a writing tick writes; the other ticks read (rules R136, R141, R152 to R157, R425). -/
def cycleStored (m : Micro) (c : Cycle) (u : Cpu) : Option Byte :=
  match c with
  | .writeVal _ | .pushVal => some (m.val u.regs)
  | .writeDl _ => some u.latch.dl
  | .writeModified _ => some (m.f u.regs u.latch.dl).1
  | .pushPch => some (highByte u.pc)
  | .pushPcl => some (lowByte u.pc)
  | .pushStatus b => some (statusByte u.regs.p b)
  | _ => none

/-- `PC <- PC +16 1`. -/
def Cpu.bumpPc (u : Cpu) : Cpu :=
  { u with pc := u.pc + 1#16 }

/-- `S <- (S - 1) mod 256` (rule R23). -/
def Cpu.decS (u : Cpu) : Cpu :=
  { u with regs := { u.regs with s := u.regs.s - 1#8 } }

/-- `S <- (S + 1) mod 256` (rule R23). -/
def Cpu.incS (u : Cpu) : Cpu :=
  { u with regs := { u.regs with s := u.regs.s + 1#8 } }

/-- `DL <-` byte; `exec(DL)` (rule R132). -/
def Cpu.operate (m : Micro) (b : Byte) (u : Cpu) : Cpu :=
  { u with latch := { u.latch with dl := b }, regs := m.exec u.regs b }

/-- Adds an index to `ADL` and keeps the carry (rules R142, R147). -/
def Cpu.indexAdl (i : Byte) (u : Cpu) : Cpu :=
  { u with latch := { u.latch with carryFix := byteCarry u.latch.adl i, adl := u.latch.adl + i } }

/-- Adds the kept carry to `ADH` (rules R142 to R144, R147). -/
def Cpu.fixAdh (u : Cpu) : Cpu :=
  { u with latch := { u.latch with adh := if u.latch.carryFix then u.latch.adh + 1#8 else u.latch.adh } }

/-- Tick T3 of a taken branch (rule R151): the target, or its low byte only when the page differs. -/
def Cpu.branch (u : Cpu) : Cpu × Bool :=
  let target := u.pc + signExtend16 u.latch.dl
  if highByte target = highByte u.pc then
    ({ u with pc := target, latch := { u.latch with carryFix := false } }, true)
  else
    ({ u with pc := join (highByte u.pc) (lowByte target), latch := { u.latch with carryFix := true } }, false)

/-- Tick T4 of a taken branch (rule R151): the high byte is corrected upwards or downwards, as the offset
is positive or negative. -/
def Cpu.branchHigh (u : Cpu) : Cpu :=
  let page := if u.latch.dl.msb then highByte u.pc - 1#8 else highByte u.pc + 1#8
  { u with pc := join page (lowByte u.pc) }

/-- Tick I1 (rules R425, R431, R432): the pending flag that is served goes; a RESET also drops a recorded
NMI and the illegal-instruction condition. -/
def Cpu.enterSequence (k : SeqKind) (u : Cpu) : Cpu :=
  match k with
  | .irq => { u with seqKind := .irq }
  | .nmi => { u with seqKind := .nmi, pend := { u.pend with nmiPending := false } }
  | .reset =>
    { u with
      seqKind := .reset
      pend := { u.pend with resetPending := false, nmiPending := false }
      illegal := { u.illegal with flag := false } }

/-- What a tick leaves in the core, `b` being the byte of its transaction (rules R133 to R159, R425). The
flag says that the pattern ends here although it has further rows. On a row of `IMP`, whose byte rule R133 discards,
the `exec` of a defined instruction takes no operand; that of a `PSEUDO_TABLE` entry gets the discarded byte: DESIGN
CHOICE, notes/assumptions/15.md. -/
def cycleEffect (m : Micro) (c : Cycle) (b : Byte) (u : Cpu) : Cpu × Bool :=
  match c with
  | .implied => ({ u with regs := m.exec u.regs b }, false)
  | .immediate => (u.bumpPc.operate m b, false)
  | .fetchAdl => ({ u.bumpPc with latch := { u.latch with adl := b } }, false)
  | .fetchAdh => ({ u.bumpPc with latch := { u.latch with adh := b } }, false)
  | .fetchAdhIndexed i => (Cpu.indexAdl (indexOf u.regs i) { u.bumpPc with latch := { u.latch with adh := b } }, false)
  | .fetchPtr => ({ u.bumpPc with latch := { u.latch with ptr := b } }, false)
  | .indexZeroPage i => ({ u with latch := { u.latch with adl := u.latch.adl + indexOf u.regs i } }, false)
  | .indexPtr => ({ u with latch := { u.latch with ptr := u.latch.ptr + u.regs.x } }, false)
  | .readPtrLow => ({ u with latch := { u.latch with adl := b } }, false)
  | .readPtrHigh => ({ u with latch := { u.latch with adh := b } }, false)
  | .readPtrHighIndexed => (Cpu.indexAdl u.regs.y { u with latch := { u.latch with adh := b } }, false)
  | .readExec _ => (u.operate m b, false)
  | .readOrFix => if u.latch.carryFix then (u.fixAdh, false) else (u.operate m b, true)
  | .readFix => (u.fixAdh, false)
  | .writeVal _ => (u, false)
  | .readDl _ => ({ u with latch := { u.latch with dl := b } }, false)
  | .writeDl _ => (u, false)
  | .writeModified _ => ({ u with regs := (m.f u.regs u.latch.dl).2 }, false)
  | .branchTest => ({ u.bumpPc with latch := { u.latch with dl := b } }, !m.cond u.regs)
  | .branchTake => u.branch
  | .branchFix => (u.branchHigh, false)
  | .discardPc => (u, false)
  | .skipPc => (u.bumpPc, false)
  | .pushVal => (u.decS, false)
  | .stackPeek => (u, false)
  | .stackNext => (u.incS, false)
  | .pullExec => (u.operate m b, false)
  | .pullFlags => (Cpu.incS { u with regs := { u.regs with p := flagsOfByte b } }, false)
  | .pullPcl => (Cpu.incS { u with pc := join (highByte u.pc) b }, false)
  | .pullPch => ({ u with pc := join b (lowByte u.pc) }, false)
  | .returnNext => (u.bumpPc, false)
  | .pushPch => (u.decS, false)
  | .pushPcl => (u.decS, false)
  | .pushStatus _ => (u.decS, false)
  | .stackSkip => (u.decS, false)
  | .fetchAdhJump => ({ u with latch := { u.latch with adh := b }, pc := join b u.latch.adl }, false)
  | .jumpPointer => ({ u with pc := join b u.latch.dl }, false)
  | .vectorLow _ =>
    ({ u with
      pc := join (highByte u.pc) b
      regs := { u.regs with p := { u.regs.p with i := true } } }, false)
  | .vectorHigh _ => ({ u with pc := join b (lowByte u.pc) }, false)
  | .enter k => (u.enterSequence k, false)

/-- The core after a tick (rule R132): the tick's effect, and the phase of the next tick, `Fetch` when the
pattern has ended. -/
def cycleCommit (m : Micro) (next : Phase) (c : Cycle) (b : Byte) (u : Cpu) : Cpu :=
  let r := cycleEffect m c b u
  { r.1 with phase := if r.2 then .fetch else next }

/-- The core's update in one tick of a pattern: exactly one transaction, then its effect (rules R62,
R132). -/
def cycleAct (m : Micro) (next : Phase) (c : Cycle) (s : State) : State :=
  match cycleStored m c s.cpu with
  | none =>
    let r := busRead (cycleAddr s.cfg c s.cpu) s
    { r.2 with cpu := cycleCommit m next c r.1 r.2.cpu }
  | some v =>
    let t := busWrite (cycleAddr s.cfg c s.cpu) v s
    { t with cpu := cycleCommit m next c v t.cpu }

/-! ## Running patterns -/

/-- The phase after row `n` of a pattern when `rest` is what follows it (rule R132). -/
def phaseAfter (mk : Nat → Phase) (n : Nat) (rest : List Cycle) : Phase :=
  if rest.isEmpty then .fetch else mk (n + 1)

/-- Runs the rows of a pattern from number `n` on, one turn of the core each, to the boundary that ends it. -/
def runCycles (m : Micro) (mk : Nat → Phase) : Nat → List Cycle → State → State
  | _, [], s => s
  | n, c :: rest, s =>
    let t := turnWith (cycleAct m (phaseAfter mk n rest) c) s
    if t.cpu.phase = .fetch then t else runCycles m mk (n + 1) rest t

/-- The core's update in tick T1 (rule R131): the opcode byte goes to `IR`; `finish` is what decode makes
of the core. -/
def fetchWith (finish : Cpu → Cpu) (s : State) : State :=
  let r := busRead s.cpu.pc s
  let u := r.2.cpu
  { r.2 with cpu := finish { u with latch := { u.latch with ir := r.1 }, pc := u.pc + 1#16 } }

/-- Decode of an opcode that runs under a pattern (rules R103, R131). -/
def beginPattern (m : Micro) (u : Cpu) : Cpu :=
  { u with phase := phaseAfter .executeCycle 1 m.cycles }

/-- A whole instruction, from its boundary to the next: T1 and the ticks of its pattern (rules R131, R132). -/
def runMicro (m : Micro) (s : State) : State :=
  runCycles m .executeCycle 2 m.cycles (turnWith (fetchWith (beginPattern m)) s)

/-- The meaning of an instruction that runs under a pattern. No instruction faults (rules R77, R410). -/
def runInstr (m : Micro) (s : State) : Result :=
  .next (runMicro m s)

/-! ## Taking an interrupt, and the return from one -/

/-- The stack ticks of an interrupt sequence: writes, or for a RESET without stack writes reads of the
same addresses (rules R425, R430). -/
def sequencePushes (c : Config) (k : SeqKind) : List Cycle :=
  if k = .reset ∧ c.resetStackWrites = false then [.stackSkip, .stackSkip, .stackSkip]
  else [.pushPch, .pushPcl, .pushStatus false]

/-- The seven ticks of an interrupt sequence (rules R425, R430). -/
def sequenceCycles (c : Config) (k : SeqKind) : List Cycle :=
  [.enter k, .discardPc] ++ sequencePushes c k ++ [.vectorLow k, .vectorHigh k]

/-- The rest of an interrupt sequence, from tick `n` on. -/
def finishSequence (k : SeqKind) (n : Nat) (s : State) : State :=
  runCycles (.nothing []) .interruptSequence n ((sequenceCycles s.cfg k).drop (n - 1)) s

/-- Taking an interrupt of a kind, from the boundary at which it is taken (rules R425 to R432). -/
def takeInterrupt (k : SeqKind) (s : State) : State :=
  finishSequence k 1 s

/-- What the poll at an instruction boundary takes: RESET over NMI over IRQ (rules R420, R421). -/
def poll (u : Cpu) : Option SeqKind :=
  if u.pend.resetPending then some .reset
  else if u.pend.nmiPending then some .nmi
  else if u.pend.irqLatched && !u.regs.p.i then some .irq
  else none

/-- The poll of a core that stands before its next update: made where `IRQ_POLL_POINT` says, at the instruction
boundary (rules R7, R420). -/
def pollAt (p : PollPoint) (u : Cpu) : Option SeqKind :=
  match p with
  | .boundary => if u.phase = .fetch then poll u else none

/-- The ticks of the return from an interrupt after T1 (rules R156, R435). -/
def returnCycles : List Cycle :=
  [.discardPc, .stackNext, .pullFlags, .pullPcl, .pullPch]

/-! ## The illegal-instruction condition -/

/-- Raises the condition in tick T1, `PC` already incremented, and follows `ILLEGAL_ACTION` (rules R301,
R304, R305). -/
def raiseIllegal (action : IllegalAction) (op : Byte) (u : Cpu) : Cpu :=
  { u with
    illegal := ⟨true, op, u.pc - 1#16⟩
    phase := match action with
      | .noOp => .executeCycle 2
      | .halt => .halted }

/-- The tick after T1 of an illegal opcode under `NoOp` (rule R304). -/
def illegalCycles : List Cycle :=
  [.implied]

/-- An illegal opcode, from its boundary (rules R301 to R306). -/
def runIllegal (op : Byte) (s : State) : Result :=
  let t := turnWith (fetchWith (raiseIllegal s.cfg.illegalAction op)) s
  match s.cfg.illegalAction with
  | .noOp => .next (runCycles (.nothing []) .executeCycle 2 illegalCycles t)
  | .halt => .next t

end Sys2Proof.Machine
end

