-- ==== Sys2Proof/Machine/Operands.lean ====
section
/-! DEFINITION. Sys2Proof/Machine/Operands.lean: every operand form: the effective addresses of rule R104
and the bus patterns of rules R133 to R159, each as the list of its ticks after T1. -/

namespace Sys2Proof.Machine

/-! ## Effective addresses (rule R104) -/

/-- The address of a zero-page form. -/
def eaZeroPage (lo : Byte) : Addr :=
  join 0#8 lo

/-- The address of an indexed zero-page form: the index wraps in page zero (rule R139). -/
def eaZeroPageIndexed (lo i : Byte) : Addr :=
  join 0#8 (lo + i)

/-- The address of an absolute form. -/
def eaAbsolute (lo hi : Byte) : Addr :=
  join hi lo

/-- The address of an indexed absolute form, and of the indirect indexed form over the pointer's content
(rules R142, R148): a 16-bit addition. -/
def eaIndexed (lo hi i : Byte) : Addr :=
  join hi lo + i.setWidth 16

/-- The address of the discarded read of an indexed form: the high byte is not yet corrected (rule R150). -/
def eaUncorrected (lo hi i : Byte) : Addr :=
  join hi (lo + i)

/-- The zero-page pointer of the indexed indirect form (rule R146). -/
def pointerIzx (zp x : Byte) : Byte :=
  zp + x

/-- The target of a taken branch; `next` is the address after the branch (rule R264). -/
def branchTarget (next : Addr) (offset : Byte) : Addr :=
  next + signExtend16 offset

/-! ## One-byte, immediate and zero-page patterns -/

/-- Pattern `IMP` (rule R133). -/
def patImp : List Cycle :=
  [.implied]

/-- Pattern `IMM` (rule R134). -/
def patImm : List Cycle :=
  [.immediate]

/-- Pattern `ZP_R` (rule R135). -/
def patZpR : List Cycle :=
  [.fetchAdl, .readExec .zeroPage]

/-- Pattern `ZP_W` (rule R136). -/
def patZpW : List Cycle :=
  [.fetchAdl, .writeVal .zeroPage]

/-- Pattern `ZP_M` (rule R137). -/
def patZpM : List Cycle :=
  [.fetchAdl, .readDl .zeroPage, .writeDl .zeroPage, .writeModified .zeroPage]

/-- Patterns `ZPX_R` and `ZPY_R` (rule R138). -/
def patZpIndexedR (i : Index) : List Cycle :=
  [.fetchAdl, .indexZeroPage i, .readExec .zeroPage]

/-- Patterns `ZPX_W` and `ZPY_W` (rule R138). -/
def patZpIndexedW (i : Index) : List Cycle :=
  [.fetchAdl, .indexZeroPage i, .writeVal .zeroPage]

/-- Pattern `ZPX_M` (rule R138). -/
def patZpIndexedM (i : Index) : List Cycle :=
  [.fetchAdl, .indexZeroPage i, .readDl .zeroPage, .writeDl .zeroPage, .writeModified .zeroPage]

/-! ## Absolute patterns -/

/-- Pattern `ABS_R` (rule R140). -/
def patAbsR : List Cycle :=
  [.fetchAdl, .fetchAdh, .readExec .absolute]

/-- Pattern `ABS_W` (rule R140). -/
def patAbsW : List Cycle :=
  [.fetchAdl, .fetchAdh, .writeVal .absolute]

/-- Pattern `ABS_M` (rule R141). -/
def patAbsM : List Cycle :=
  [.fetchAdl, .fetchAdh, .readDl .absolute, .writeDl .absolute, .writeModified .absolute]

/-- Patterns `ABX_R` and `ABY_R` (rule R142): the last tick only when a page is crossed. -/
def patAbsIndexedR (i : Index) : List Cycle :=
  [.fetchAdl, .fetchAdhIndexed i, .readOrFix, .readExec .absolute]

/-- Patterns `ABX_W` and `ABY_W` (rule R143). -/
def patAbsIndexedW (i : Index) : List Cycle :=
  [.fetchAdl, .fetchAdhIndexed i, .readFix, .writeVal .absolute]

/-- Pattern `ABX_M` (rule R144). -/
def patAbsIndexedM (i : Index) : List Cycle :=
  [.fetchAdl, .fetchAdhIndexed i, .readFix, .readDl .absolute, .writeDl .absolute, .writeModified .absolute]

/-! ## Indirect patterns -/

/-- Pattern `IZX_R` (rule R145). -/
def patIzxR : List Cycle :=
  [.fetchPtr, .indexPtr, .readPtrLow, .readPtrHigh, .readExec .absolute]

/-- Pattern `IZX_W` (rule R145). -/
def patIzxW : List Cycle :=
  [.fetchPtr, .indexPtr, .readPtrLow, .readPtrHigh, .writeVal .absolute]

/-- Pattern `IZY_R` (rule R147): the last tick only when a page is crossed. -/
def patIzyR : List Cycle :=
  [.fetchPtr, .readPtrLow, .readPtrHighIndexed, .readOrFix, .readExec .absolute]

/-- Pattern `IZY_W` (rule R147). -/
def patIzyW : List Cycle :=
  [.fetchPtr, .readPtrLow, .readPtrHighIndexed, .readFix, .writeVal .absolute]

/-! ## Relative, stack and control-transfer patterns -/

/-- Pattern `REL` (rule R151). -/
def patRel : List Cycle :=
  [.branchTest, .branchTake, .branchFix]

/-- Pattern `PUSH` (rule R152). -/
def patPush : List Cycle :=
  [.discardPc, .pushVal]

/-- Pattern `PULL` (rule R153). -/
def patPull : List Cycle :=
  [.discardPc, .stackNext, .pullExec]

/-- Pattern `JSR` (rule R154). -/
def patJsr : List Cycle :=
  [.fetchAdl, .stackPeek, .pushPch, .pushPcl, .fetchAdhJump]

/-- Pattern `RTS` (rule R155). -/
def patRts : List Cycle :=
  [.discardPc, .stackNext, .pullPcl, .pullPch, .returnNext]

/-- Pattern `RTI` (rule R156). -/
def patRti : List Cycle :=
  returnCycles

/-- Pattern `BRK` (rule R157). -/
def patBrk : List Cycle :=
  [.skipPc, .pushPch, .pushPcl, .pushStatus true, .vectorLow .irq, .vectorHigh .irq]

/-- Pattern `JMP_ABS` (rule R158). -/
def patJmpAbs : List Cycle :=
  [.fetchAdl, .fetchAdhJump]

/-- Pattern `JMP_IND` (rule R159). -/
def patJmpInd : List Cycle :=
  [.fetchAdl, .fetchAdh, .readDl .absolute, .jumpPointer]

end Sys2Proof.Machine
end

