-- ==== Sys2Proof/Machine/Load.lean ====
section
/-! DEFINITION. Sys2Proof/Machine/Load.lean: loads, stores and register transfers (spec/41_load_store_transfer.md). Each
instruction is its pattern with its own operation; its meaning runs the two. -/

namespace Sys2Proof.Machine

/-! ## Operations -/

/-- `A <- M; setNZ(M)` (rules R180, R202). -/
def opLda (r : Regs) (m : Byte) : Regs :=
  { r with a := m, p := setNZ r.p m }

/-- `X <- M; setNZ(M)` (rule R181). -/
def opLdx (r : Regs) (m : Byte) : Regs :=
  { r with x := m, p := setNZ r.p m }

/-- `Y <- M; setNZ(M)` (rule R182). -/
def opLdy (r : Regs) (m : Byte) : Regs :=
  { r with y := m, p := setNZ r.p m }

/-- The byte `STA` and `PHA` write (rules R183, R200). -/
def valA (r : Regs) : Byte :=
  r.a

/-- The byte `STX` writes (rule R184). -/
def valX (r : Regs) : Byte :=
  r.x

/-- The byte `STY` writes (rule R185). -/
def valY (r : Regs) : Byte :=
  r.y

/-- `TAX` (rule R186). -/
def opTax (r : Regs) (_ : Byte) : Regs :=
  { r with x := r.a, p := setNZ r.p r.a }

/-- `TAY` (rule R187). -/
def opTay (r : Regs) (_ : Byte) : Regs :=
  { r with y := r.a, p := setNZ r.p r.a }

/-- `TXA` (rule R188). -/
def opTxa (r : Regs) (_ : Byte) : Regs :=
  { r with a := r.x, p := setNZ r.p r.x }

/-- `TYA` (rule R189). -/
def opTya (r : Regs) (_ : Byte) : Regs :=
  { r with a := r.y, p := setNZ r.p r.y }

/-- `TSX` (rule R190). -/
def opTsx (r : Regs) (_ : Byte) : Regs :=
  { r with x := r.s, p := setNZ r.p r.s }

/-- `TXS` (rule R191): no flag changes. -/
def opTxs (r : Regs) (_ : Byte) : Regs :=
  { r with s := r.x }

/-! ## Instructions -/

/-- `LDA`, opcode A1, format IZX (rules R180, R145). -/
def ldaIzxCode : Micro :=
  { cycles := patIzxR, exec := opLda }

/-- The meaning of `LDA`, opcode A1 (rule R180). -/
def execLdaIzx (s : State) : Result :=
  runInstr ldaIzxCode s

/-- `LDA`, opcode A5, format ZP (rules R180, R135). -/
def ldaZpCode : Micro :=
  { cycles := patZpR, exec := opLda }

/-- The meaning of `LDA`, opcode A5 (rule R180). -/
def execLdaZp (s : State) : Result :=
  runInstr ldaZpCode s

/-- `LDA`, opcode A9, format IMM (rules R180, R134). -/
def ldaImmCode : Micro :=
  { cycles := patImm, exec := opLda }

/-- The meaning of `LDA`, opcode A9 (rule R180). -/
def execLdaImm (s : State) : Result :=
  runInstr ldaImmCode s

/-- `LDA`, opcode AD, format ABS (rules R180, R140). -/
def ldaAbsCode : Micro :=
  { cycles := patAbsR, exec := opLda }

/-- The meaning of `LDA`, opcode AD (rule R180). -/
def execLdaAbs (s : State) : Result :=
  runInstr ldaAbsCode s

/-- `LDA`, opcode B1, format IZY (rules R180, R147). -/
def ldaIzyCode : Micro :=
  { cycles := patIzyR, exec := opLda }

/-- The meaning of `LDA`, opcode B1 (rule R180). -/
def execLdaIzy (s : State) : Result :=
  runInstr ldaIzyCode s

/-- `LDA`, opcode B5, format ZPX (rules R180, R138). -/
def ldaZpxCode : Micro :=
  { cycles := patZpIndexedR .x, exec := opLda }

/-- The meaning of `LDA`, opcode B5 (rule R180). -/
def execLdaZpx (s : State) : Result :=
  runInstr ldaZpxCode s

/-- `LDA`, opcode B9, format ABY (rules R180, R142). -/
def ldaAbyCode : Micro :=
  { cycles := patAbsIndexedR .y, exec := opLda }

/-- The meaning of `LDA`, opcode B9 (rule R180). -/
def execLdaAby (s : State) : Result :=
  runInstr ldaAbyCode s

/-- `LDA`, opcode BD, format ABX (rules R180, R142). -/
def ldaAbxCode : Micro :=
  { cycles := patAbsIndexedR .x, exec := opLda }

/-- The meaning of `LDA`, opcode BD (rule R180). -/
def execLdaAbx (s : State) : Result :=
  runInstr ldaAbxCode s

/-- `LDX`, opcode A2, format IMM (rules R181, R134). -/
def ldxImmCode : Micro :=
  { cycles := patImm, exec := opLdx }

/-- The meaning of `LDX`, opcode A2 (rule R181). -/
def execLdxImm (s : State) : Result :=
  runInstr ldxImmCode s

/-- `LDX`, opcode A6, format ZP (rules R181, R135). -/
def ldxZpCode : Micro :=
  { cycles := patZpR, exec := opLdx }

/-- The meaning of `LDX`, opcode A6 (rule R181). -/
def execLdxZp (s : State) : Result :=
  runInstr ldxZpCode s

/-- `LDX`, opcode AE, format ABS (rules R181, R140). -/
def ldxAbsCode : Micro :=
  { cycles := patAbsR, exec := opLdx }

/-- The meaning of `LDX`, opcode AE (rule R181). -/
def execLdxAbs (s : State) : Result :=
  runInstr ldxAbsCode s

/-- `LDX`, opcode B6, format ZPY (rules R181, R138). -/
def ldxZpyCode : Micro :=
  { cycles := patZpIndexedR .y, exec := opLdx }

/-- The meaning of `LDX`, opcode B6 (rule R181). -/
def execLdxZpy (s : State) : Result :=
  runInstr ldxZpyCode s

/-- `LDX`, opcode BE, format ABY (rules R181, R142). -/
def ldxAbyCode : Micro :=
  { cycles := patAbsIndexedR .y, exec := opLdx }

/-- The meaning of `LDX`, opcode BE (rule R181). -/
def execLdxAby (s : State) : Result :=
  runInstr ldxAbyCode s

/-- `LDY`, opcode A0, format IMM (rules R182, R134). -/
def ldyImmCode : Micro :=
  { cycles := patImm, exec := opLdy }

/-- The meaning of `LDY`, opcode A0 (rule R182). -/
def execLdyImm (s : State) : Result :=
  runInstr ldyImmCode s

/-- `LDY`, opcode A4, format ZP (rules R182, R135). -/
def ldyZpCode : Micro :=
  { cycles := patZpR, exec := opLdy }

/-- The meaning of `LDY`, opcode A4 (rule R182). -/
def execLdyZp (s : State) : Result :=
  runInstr ldyZpCode s

/-- `LDY`, opcode AC, format ABS (rules R182, R140). -/
def ldyAbsCode : Micro :=
  { cycles := patAbsR, exec := opLdy }

/-- The meaning of `LDY`, opcode AC (rule R182). -/
def execLdyAbs (s : State) : Result :=
  runInstr ldyAbsCode s

/-- `LDY`, opcode B4, format ZPX (rules R182, R138). -/
def ldyZpxCode : Micro :=
  { cycles := patZpIndexedR .x, exec := opLdy }

/-- The meaning of `LDY`, opcode B4 (rule R182). -/
def execLdyZpx (s : State) : Result :=
  runInstr ldyZpxCode s

/-- `LDY`, opcode BC, format ABX (rules R182, R142). -/
def ldyAbxCode : Micro :=
  { cycles := patAbsIndexedR .x, exec := opLdy }

/-- The meaning of `LDY`, opcode BC (rule R182). -/
def execLdyAbx (s : State) : Result :=
  runInstr ldyAbxCode s

/-- `STA`, opcode 81, format IZX (rules R183, R145). -/
def staIzxCode : Micro :=
  { cycles := patIzxW, val := valA }

/-- The meaning of `STA`, opcode 81 (rule R183). -/
def execStaIzx (s : State) : Result :=
  runInstr staIzxCode s

/-- `STA`, opcode 85, format ZP (rules R183, R136). -/
def staZpCode : Micro :=
  { cycles := patZpW, val := valA }

/-- The meaning of `STA`, opcode 85 (rule R183). -/
def execStaZp (s : State) : Result :=
  runInstr staZpCode s

/-- `STA`, opcode 8D, format ABS (rules R183, R140). -/
def staAbsCode : Micro :=
  { cycles := patAbsW, val := valA }

/-- The meaning of `STA`, opcode 8D (rule R183). -/
def execStaAbs (s : State) : Result :=
  runInstr staAbsCode s

/-- `STA`, opcode 91, format IZY (rules R183, R147). -/
def staIzyCode : Micro :=
  { cycles := patIzyW, val := valA }

/-- The meaning of `STA`, opcode 91 (rule R183). -/
def execStaIzy (s : State) : Result :=
  runInstr staIzyCode s

/-- `STA`, opcode 95, format ZPX (rules R183, R138). -/
def staZpxCode : Micro :=
  { cycles := patZpIndexedW .x, val := valA }

/-- The meaning of `STA`, opcode 95 (rule R183). -/
def execStaZpx (s : State) : Result :=
  runInstr staZpxCode s

/-- `STA`, opcode 99, format ABY (rules R183, R143). -/
def staAbyCode : Micro :=
  { cycles := patAbsIndexedW .y, val := valA }

/-- The meaning of `STA`, opcode 99 (rule R183). -/
def execStaAby (s : State) : Result :=
  runInstr staAbyCode s

/-- `STA`, opcode 9D, format ABX (rules R183, R143). -/
def staAbxCode : Micro :=
  { cycles := patAbsIndexedW .x, val := valA }

/-- The meaning of `STA`, opcode 9D (rule R183). -/
def execStaAbx (s : State) : Result :=
  runInstr staAbxCode s

/-- `STX`, opcode 86, format ZP (rules R184, R136). -/
def stxZpCode : Micro :=
  { cycles := patZpW, val := valX }

/-- The meaning of `STX`, opcode 86 (rule R184). -/
def execStxZp (s : State) : Result :=
  runInstr stxZpCode s

/-- `STX`, opcode 8E, format ABS (rules R184, R140). -/
def stxAbsCode : Micro :=
  { cycles := patAbsW, val := valX }

/-- The meaning of `STX`, opcode 8E (rule R184). -/
def execStxAbs (s : State) : Result :=
  runInstr stxAbsCode s

/-- `STX`, opcode 96, format ZPY (rules R184, R138). -/
def stxZpyCode : Micro :=
  { cycles := patZpIndexedW .y, val := valX }

/-- The meaning of `STX`, opcode 96 (rule R184). -/
def execStxZpy (s : State) : Result :=
  runInstr stxZpyCode s

/-- `STY`, opcode 84, format ZP (rules R185, R136). -/
def styZpCode : Micro :=
  { cycles := patZpW, val := valY }

/-- The meaning of `STY`, opcode 84 (rule R185). -/
def execStyZp (s : State) : Result :=
  runInstr styZpCode s

/-- `STY`, opcode 8C, format ABS (rules R185, R140). -/
def styAbsCode : Micro :=
  { cycles := patAbsW, val := valY }

/-- The meaning of `STY`, opcode 8C (rule R185). -/
def execStyAbs (s : State) : Result :=
  runInstr styAbsCode s

/-- `STY`, opcode 94, format ZPX (rules R185, R138). -/
def styZpxCode : Micro :=
  { cycles := patZpIndexedW .x, val := valY }

/-- The meaning of `STY`, opcode 94 (rule R185). -/
def execStyZpx (s : State) : Result :=
  runInstr styZpxCode s

/-- `TAX`, opcode AA, format IMP (rules R186, R133). -/
def taxCode : Micro :=
  { cycles := patImp, exec := opTax }

/-- The meaning of `TAX`, opcode AA (rule R186). -/
def execTax (s : State) : Result :=
  runInstr taxCode s

/-- `TAY`, opcode A8, format IMP (rules R187, R133). -/
def tayCode : Micro :=
  { cycles := patImp, exec := opTay }

/-- The meaning of `TAY`, opcode A8 (rule R187). -/
def execTay (s : State) : Result :=
  runInstr tayCode s

/-- `TXA`, opcode 8A, format IMP (rules R188, R133). -/
def txaCode : Micro :=
  { cycles := patImp, exec := opTxa }

/-- The meaning of `TXA`, opcode 8A (rule R188). -/
def execTxa (s : State) : Result :=
  runInstr txaCode s

/-- `TYA`, opcode 98, format IMP (rules R189, R133). -/
def tyaCode : Micro :=
  { cycles := patImp, exec := opTya }

/-- The meaning of `TYA`, opcode 98 (rule R189). -/
def execTya (s : State) : Result :=
  runInstr tyaCode s

/-- `TSX`, opcode BA, format IMP (rules R190, R133). -/
def tsxCode : Micro :=
  { cycles := patImp, exec := opTsx }

/-- The meaning of `TSX`, opcode BA (rule R190). -/
def execTsx (s : State) : Result :=
  runInstr tsxCode s

/-- `TXS`, opcode 9A, format IMP (rules R191, R133). -/
def txsCode : Micro :=
  { cycles := patImp, exec := opTxs }

/-- The meaning of `TXS`, opcode 9A (rule R191). -/
def execTxs (s : State) : Result :=
  runInstr txsCode s

end Sys2Proof.Machine
end

