-- ==== Sys2Proof/Machine/Stack.lean ====
section
/-! DEFINITION. Sys2Proof/Machine/Stack.lean: the stack instructions (spec/42_stack.md). Each
instruction is its pattern with its own operation; its meaning runs the two. -/

namespace Sys2Proof.Machine

/-! ## Operations -/

/-- The byte `PHP` writes, `Pbyte(1)` (rule R201). -/
def valStatus (r : Regs) : Byte :=
  statusByte r.p true

/-- `PLP` (rule R203): all six flags. -/
def opPlp (r : Regs) (m : Byte) : Regs :=
  { r with p := flagsOfByte m }

/-! ## Instructions -/

/-- `PHA`, opcode 48, format IMP (rules R200, R152). -/
def phaCode : Micro :=
  { cycles := patPush, val := valA }

/-- The meaning of `PHA`, opcode 48 (rule R200). -/
def execPha (s : State) : Result :=
  runInstr phaCode s

/-- `PHP`, opcode 08, format IMP (rules R201, R152). -/
def phpCode : Micro :=
  { cycles := patPush, val := valStatus }

/-- The meaning of `PHP`, opcode 08 (rule R201). -/
def execPhp (s : State) : Result :=
  runInstr phpCode s

/-- `PLA`, opcode 68, format IMP (rules R202, R153). -/
def plaCode : Micro :=
  { cycles := patPull, exec := opLda }

/-- The meaning of `PLA`, opcode 68 (rule R202). -/
def execPla (s : State) : Result :=
  runInstr plaCode s

/-- `PLP`, opcode 28, format IMP (rules R203, R153). -/
def plpCode : Micro :=
  { cycles := patPull, exec := opPlp }

/-- The meaning of `PLP`, opcode 28 (rule R203). -/
def execPlp (s : State) : Result :=
  runInstr plpCode s

end Sys2Proof.Machine
end

