-- ==== Sys2Proof/Machine/Arith.lean ====
section
/-! DEFINITION. Sys2Proof/Machine/Arith.lean: arithmetic, comparison, increment and decrement (spec/43_arithmetic.md). Each
instruction is its pattern with its own operation; its meaning runs the two. -/

namespace Sys2Proof.Machine

/-! ## Operations -/

/-- What an addition leaves in the registers (rule R210). -/
def storeSum (r : Regs) (q : Sum) : Regs :=
  { r with a := q.r, p := { r.p with c := q.c, v := q.v, n := q.n, z := q.z } }

/-- `ADC` (rule R210). -/
def opAdc (r : Regs) (m : Byte) : Regs :=
  storeSum r (if r.p.d then addDec r.a m r.p.c else addBin r.a m r.p.c)

/-- `SBC` (rule R213): in decimal mode only the value of `A` differs. -/
def opSbc (r : Regs) (m : Byte) : Regs :=
  let q := addBin r.a (m ^^^ 0xFF#8) r.p.c
  storeSum r { q with r := if r.p.d then subDecResult r.a m r.p.c else q.r }

/-- `CMP` (rule R215). -/
def opCmp (r : Regs) (m : Byte) : Regs :=
  { r with p := compareFlags r.p r.a m }

/-- `CPX` (rule R216). -/
def opCpx (r : Regs) (m : Byte) : Regs :=
  { r with p := compareFlags r.p r.x m }

/-- `CPY` (rule R217). -/
def opCpy (r : Regs) (m : Byte) : Regs :=
  { r with p := compareFlags r.p r.y m }

/-- `INC` of a memory byte (rule R218). -/
def modInc (r : Regs) (v : Byte) : Byte × Regs :=
  (v + 1#8, { r with p := setNZ r.p (v + 1#8) })

/-- `DEC` of a memory byte (rule R221). -/
def modDec (r : Regs) (v : Byte) : Byte × Regs :=
  (v - 1#8, { r with p := setNZ r.p (v - 1#8) })

/-- `INX` (rule R219). -/
def opInx (r : Regs) (_ : Byte) : Regs :=
  { r with x := r.x + 1#8, p := setNZ r.p (r.x + 1#8) }

/-- `INY` (rule R220). -/
def opIny (r : Regs) (_ : Byte) : Regs :=
  { r with y := r.y + 1#8, p := setNZ r.p (r.y + 1#8) }

/-- `DEX` (rule R222). -/
def opDex (r : Regs) (_ : Byte) : Regs :=
  { r with x := r.x - 1#8, p := setNZ r.p (r.x - 1#8) }

/-- `DEY` (rule R223). -/
def opDey (r : Regs) (_ : Byte) : Regs :=
  { r with y := r.y - 1#8, p := setNZ r.p (r.y - 1#8) }

/-! ## Instructions -/

/-- `ADC`, opcode 61, format IZX (rules R210, R145). -/
def adcIzxCode : Micro :=
  { cycles := patIzxR, exec := opAdc }

/-- The meaning of `ADC`, opcode 61 (rule R210). -/
def execAdcIzx (s : State) : Result :=
  runInstr adcIzxCode s

/-- `ADC`, opcode 65, format ZP (rules R210, R135). -/
def adcZpCode : Micro :=
  { cycles := patZpR, exec := opAdc }

/-- The meaning of `ADC`, opcode 65 (rule R210). -/
def execAdcZp (s : State) : Result :=
  runInstr adcZpCode s

/-- `ADC`, opcode 69, format IMM (rules R210, R134). -/
def adcImmCode : Micro :=
  { cycles := patImm, exec := opAdc }

/-- The meaning of `ADC`, opcode 69 (rule R210). -/
def execAdcImm (s : State) : Result :=
  runInstr adcImmCode s

/-- `ADC`, opcode 6D, format ABS (rules R210, R140). -/
def adcAbsCode : Micro :=
  { cycles := patAbsR, exec := opAdc }

/-- The meaning of `ADC`, opcode 6D (rule R210). -/
def execAdcAbs (s : State) : Result :=
  runInstr adcAbsCode s

/-- `ADC`, opcode 71, format IZY (rules R210, R147). -/
def adcIzyCode : Micro :=
  { cycles := patIzyR, exec := opAdc }

/-- The meaning of `ADC`, opcode 71 (rule R210). -/
def execAdcIzy (s : State) : Result :=
  runInstr adcIzyCode s

/-- `ADC`, opcode 75, format ZPX (rules R210, R138). -/
def adcZpxCode : Micro :=
  { cycles := patZpIndexedR .x, exec := opAdc }

/-- The meaning of `ADC`, opcode 75 (rule R210). -/
def execAdcZpx (s : State) : Result :=
  runInstr adcZpxCode s

/-- `ADC`, opcode 79, format ABY (rules R210, R142). -/
def adcAbyCode : Micro :=
  { cycles := patAbsIndexedR .y, exec := opAdc }

/-- The meaning of `ADC`, opcode 79 (rule R210). -/
def execAdcAby (s : State) : Result :=
  runInstr adcAbyCode s

/-- `ADC`, opcode 7D, format ABX (rules R210, R142). -/
def adcAbxCode : Micro :=
  { cycles := patAbsIndexedR .x, exec := opAdc }

/-- The meaning of `ADC`, opcode 7D (rule R210). -/
def execAdcAbx (s : State) : Result :=
  runInstr adcAbxCode s

/-- `SBC`, opcode E1, format IZX (rules R213, R145). -/
def sbcIzxCode : Micro :=
  { cycles := patIzxR, exec := opSbc }

/-- The meaning of `SBC`, opcode E1 (rule R213). -/
def execSbcIzx (s : State) : Result :=
  runInstr sbcIzxCode s

/-- `SBC`, opcode E5, format ZP (rules R213, R135). -/
def sbcZpCode : Micro :=
  { cycles := patZpR, exec := opSbc }

/-- The meaning of `SBC`, opcode E5 (rule R213). -/
def execSbcZp (s : State) : Result :=
  runInstr sbcZpCode s

/-- `SBC`, opcode E9, format IMM (rules R213, R134). -/
def sbcImmCode : Micro :=
  { cycles := patImm, exec := opSbc }

/-- The meaning of `SBC`, opcode E9 (rule R213). -/
def execSbcImm (s : State) : Result :=
  runInstr sbcImmCode s

/-- `SBC`, opcode ED, format ABS (rules R213, R140). -/
def sbcAbsCode : Micro :=
  { cycles := patAbsR, exec := opSbc }

/-- The meaning of `SBC`, opcode ED (rule R213). -/
def execSbcAbs (s : State) : Result :=
  runInstr sbcAbsCode s

/-- `SBC`, opcode F1, format IZY (rules R213, R147). -/
def sbcIzyCode : Micro :=
  { cycles := patIzyR, exec := opSbc }

/-- The meaning of `SBC`, opcode F1 (rule R213). -/
def execSbcIzy (s : State) : Result :=
  runInstr sbcIzyCode s

/-- `SBC`, opcode F5, format ZPX (rules R213, R138). -/
def sbcZpxCode : Micro :=
  { cycles := patZpIndexedR .x, exec := opSbc }

/-- The meaning of `SBC`, opcode F5 (rule R213). -/
def execSbcZpx (s : State) : Result :=
  runInstr sbcZpxCode s

/-- `SBC`, opcode F9, format ABY (rules R213, R142). -/
def sbcAbyCode : Micro :=
  { cycles := patAbsIndexedR .y, exec := opSbc }

/-- The meaning of `SBC`, opcode F9 (rule R213). -/
def execSbcAby (s : State) : Result :=
  runInstr sbcAbyCode s

/-- `SBC`, opcode FD, format ABX (rules R213, R142). -/
def sbcAbxCode : Micro :=
  { cycles := patAbsIndexedR .x, exec := opSbc }

/-- The meaning of `SBC`, opcode FD (rule R213). -/
def execSbcAbx (s : State) : Result :=
  runInstr sbcAbxCode s

/-- `CMP`, opcode C1, format IZX (rules R215, R145). -/
def cmpIzxCode : Micro :=
  { cycles := patIzxR, exec := opCmp }

/-- The meaning of `CMP`, opcode C1 (rule R215). -/
def execCmpIzx (s : State) : Result :=
  runInstr cmpIzxCode s

/-- `CMP`, opcode C5, format ZP (rules R215, R135). -/
def cmpZpCode : Micro :=
  { cycles := patZpR, exec := opCmp }

/-- The meaning of `CMP`, opcode C5 (rule R215). -/
def execCmpZp (s : State) : Result :=
  runInstr cmpZpCode s

/-- `CMP`, opcode C9, format IMM (rules R215, R134). -/
def cmpImmCode : Micro :=
  { cycles := patImm, exec := opCmp }

/-- The meaning of `CMP`, opcode C9 (rule R215). -/
def execCmpImm (s : State) : Result :=
  runInstr cmpImmCode s

/-- `CMP`, opcode CD, format ABS (rules R215, R140). -/
def cmpAbsCode : Micro :=
  { cycles := patAbsR, exec := opCmp }

/-- The meaning of `CMP`, opcode CD (rule R215). -/
def execCmpAbs (s : State) : Result :=
  runInstr cmpAbsCode s

/-- `CMP`, opcode D1, format IZY (rules R215, R147). -/
def cmpIzyCode : Micro :=
  { cycles := patIzyR, exec := opCmp }

/-- The meaning of `CMP`, opcode D1 (rule R215). -/
def execCmpIzy (s : State) : Result :=
  runInstr cmpIzyCode s

/-- `CMP`, opcode D5, format ZPX (rules R215, R138). -/
def cmpZpxCode : Micro :=
  { cycles := patZpIndexedR .x, exec := opCmp }

/-- The meaning of `CMP`, opcode D5 (rule R215). -/
def execCmpZpx (s : State) : Result :=
  runInstr cmpZpxCode s

/-- `CMP`, opcode D9, format ABY (rules R215, R142). -/
def cmpAbyCode : Micro :=
  { cycles := patAbsIndexedR .y, exec := opCmp }

/-- The meaning of `CMP`, opcode D9 (rule R215). -/
def execCmpAby (s : State) : Result :=
  runInstr cmpAbyCode s

/-- `CMP`, opcode DD, format ABX (rules R215, R142). -/
def cmpAbxCode : Micro :=
  { cycles := patAbsIndexedR .x, exec := opCmp }

/-- The meaning of `CMP`, opcode DD (rule R215). -/
def execCmpAbx (s : State) : Result :=
  runInstr cmpAbxCode s

/-- `CPX`, opcode E0, format IMM (rules R216, R134). -/
def cpxImmCode : Micro :=
  { cycles := patImm, exec := opCpx }

/-- The meaning of `CPX`, opcode E0 (rule R216). -/
def execCpxImm (s : State) : Result :=
  runInstr cpxImmCode s

/-- `CPX`, opcode E4, format ZP (rules R216, R135). -/
def cpxZpCode : Micro :=
  { cycles := patZpR, exec := opCpx }

/-- The meaning of `CPX`, opcode E4 (rule R216). -/
def execCpxZp (s : State) : Result :=
  runInstr cpxZpCode s

/-- `CPX`, opcode EC, format ABS (rules R216, R140). -/
def cpxAbsCode : Micro :=
  { cycles := patAbsR, exec := opCpx }

/-- The meaning of `CPX`, opcode EC (rule R216). -/
def execCpxAbs (s : State) : Result :=
  runInstr cpxAbsCode s

/-- `CPY`, opcode C0, format IMM (rules R217, R134). -/
def cpyImmCode : Micro :=
  { cycles := patImm, exec := opCpy }

/-- The meaning of `CPY`, opcode C0 (rule R217). -/
def execCpyImm (s : State) : Result :=
  runInstr cpyImmCode s

/-- `CPY`, opcode C4, format ZP (rules R217, R135). -/
def cpyZpCode : Micro :=
  { cycles := patZpR, exec := opCpy }

/-- The meaning of `CPY`, opcode C4 (rule R217). -/
def execCpyZp (s : State) : Result :=
  runInstr cpyZpCode s

/-- `CPY`, opcode CC, format ABS (rules R217, R140). -/
def cpyAbsCode : Micro :=
  { cycles := patAbsR, exec := opCpy }

/-- The meaning of `CPY`, opcode CC (rule R217). -/
def execCpyAbs (s : State) : Result :=
  runInstr cpyAbsCode s

/-- `INC`, opcode E6, format ZP (rules R218, R137). -/
def incZpCode : Micro :=
  { cycles := patZpM, f := modInc }

/-- The meaning of `INC`, opcode E6 (rule R218). -/
def execIncZp (s : State) : Result :=
  runInstr incZpCode s

/-- `INC`, opcode EE, format ABS (rules R218, R141). -/
def incAbsCode : Micro :=
  { cycles := patAbsM, f := modInc }

/-- The meaning of `INC`, opcode EE (rule R218). -/
def execIncAbs (s : State) : Result :=
  runInstr incAbsCode s

/-- `INC`, opcode F6, format ZPX (rules R218, R138). -/
def incZpxCode : Micro :=
  { cycles := patZpIndexedM .x, f := modInc }

/-- The meaning of `INC`, opcode F6 (rule R218). -/
def execIncZpx (s : State) : Result :=
  runInstr incZpxCode s

/-- `INC`, opcode FE, format ABX (rules R218, R144). -/
def incAbxCode : Micro :=
  { cycles := patAbsIndexedM .x, f := modInc }

/-- The meaning of `INC`, opcode FE (rule R218). -/
def execIncAbx (s : State) : Result :=
  runInstr incAbxCode s

/-- `INX`, opcode E8, format IMP (rules R219, R133). -/
def inxCode : Micro :=
  { cycles := patImp, exec := opInx }

/-- The meaning of `INX`, opcode E8 (rule R219). -/
def execInx (s : State) : Result :=
  runInstr inxCode s

/-- `INY`, opcode C8, format IMP (rules R220, R133). -/
def inyCode : Micro :=
  { cycles := patImp, exec := opIny }

/-- The meaning of `INY`, opcode C8 (rule R220). -/
def execIny (s : State) : Result :=
  runInstr inyCode s

/-- `DEC`, opcode C6, format ZP (rules R221, R137). -/
def decZpCode : Micro :=
  { cycles := patZpM, f := modDec }

/-- The meaning of `DEC`, opcode C6 (rule R221). -/
def execDecZp (s : State) : Result :=
  runInstr decZpCode s

/-- `DEC`, opcode CE, format ABS (rules R221, R141). -/
def decAbsCode : Micro :=
  { cycles := patAbsM, f := modDec }

/-- The meaning of `DEC`, opcode CE (rule R221). -/
def execDecAbs (s : State) : Result :=
  runInstr decAbsCode s

/-- `DEC`, opcode D6, format ZPX (rules R221, R138). -/
def decZpxCode : Micro :=
  { cycles := patZpIndexedM .x, f := modDec }

/-- The meaning of `DEC`, opcode D6 (rule R221). -/
def execDecZpx (s : State) : Result :=
  runInstr decZpxCode s

/-- `DEC`, opcode DE, format ABX (rules R221, R144). -/
def decAbxCode : Micro :=
  { cycles := patAbsIndexedM .x, f := modDec }

/-- The meaning of `DEC`, opcode DE (rule R221). -/
def execDecAbx (s : State) : Result :=
  runInstr decAbxCode s

/-- `DEX`, opcode CA, format IMP (rules R222, R133). -/
def dexCode : Micro :=
  { cycles := patImp, exec := opDex }

/-- The meaning of `DEX`, opcode CA (rule R222). -/
def execDex (s : State) : Result :=
  runInstr dexCode s

/-- `DEY`, opcode 88, format IMP (rules R223, R133). -/
def deyCode : Micro :=
  { cycles := patImp, exec := opDey }

/-- The meaning of `DEY`, opcode 88 (rule R223). -/
def execDey (s : State) : Result :=
  runInstr deyCode s

end Sys2Proof.Machine
end

