-- ==== Sys2Proof/Machine/Logic.lean ====
section
/-! DEFINITION. Sys2Proof/Machine/Logic.lean: logic, bit test, shifts and rotates (spec/44_logic_shift.md). Each
instruction is its pattern with its own operation; its meaning runs the two. -/

namespace Sys2Proof.Machine

/-! ## Operations -/

/-- What a logical operation leaves in the registers (rules R240 to R242). -/
def storeLogic (r : Regs) (v : Byte) : Regs :=
  { r with a := v, p := setNZ r.p v }

/-- `AND` (rule R240). -/
def opAnd (r : Regs) (m : Byte) : Regs :=
  storeLogic r (r.a &&& m)

/-- `ORA` (rule R241). -/
def opOra (r : Regs) (m : Byte) : Regs :=
  storeLogic r (r.a ||| m)

/-- `EOR` (rule R242). -/
def opEor (r : Regs) (m : Byte) : Regs :=
  storeLogic r (r.a ^^^ m)

/-- `BIT` (rule R243). -/
def opBit (r : Regs) (m : Byte) : Regs :=
  { r with p := bitFlags r.p r.a m }

/-- A shift of a memory byte: the byte written and the registers (rules R244 to R247). -/
def shiftMemory (shift : Flags → Byte → Byte × Flags) (r : Regs) (v : Byte) : Byte × Regs :=
  let q := shift r.p v
  (q.1, { r with p := q.2 })

/-- A shift of the accumulator (rules R244 to R247). -/
def shiftAcc (shift : Flags → Byte → Byte × Flags) (r : Regs) (_ : Byte) : Regs :=
  let q := shift r.p r.a
  { r with a := q.1, p := q.2 }

/-! ## Instructions -/

/-- `AND`, opcode 21, format IZX (rules R240, R145). -/
def andIzxCode : Micro :=
  { cycles := patIzxR, exec := opAnd }

/-- The meaning of `AND`, opcode 21 (rule R240). -/
def execAndIzx (s : State) : Result :=
  runInstr andIzxCode s

/-- `AND`, opcode 25, format ZP (rules R240, R135). -/
def andZpCode : Micro :=
  { cycles := patZpR, exec := opAnd }

/-- The meaning of `AND`, opcode 25 (rule R240). -/
def execAndZp (s : State) : Result :=
  runInstr andZpCode s

/-- `AND`, opcode 29, format IMM (rules R240, R134). -/
def andImmCode : Micro :=
  { cycles := patImm, exec := opAnd }

/-- The meaning of `AND`, opcode 29 (rule R240). -/
def execAndImm (s : State) : Result :=
  runInstr andImmCode s

/-- `AND`, opcode 2D, format ABS (rules R240, R140). -/
def andAbsCode : Micro :=
  { cycles := patAbsR, exec := opAnd }

/-- The meaning of `AND`, opcode 2D (rule R240). -/
def execAndAbs (s : State) : Result :=
  runInstr andAbsCode s

/-- `AND`, opcode 31, format IZY (rules R240, R147). -/
def andIzyCode : Micro :=
  { cycles := patIzyR, exec := opAnd }

/-- The meaning of `AND`, opcode 31 (rule R240). -/
def execAndIzy (s : State) : Result :=
  runInstr andIzyCode s

/-- `AND`, opcode 35, format ZPX (rules R240, R138). -/
def andZpxCode : Micro :=
  { cycles := patZpIndexedR .x, exec := opAnd }

/-- The meaning of `AND`, opcode 35 (rule R240). -/
def execAndZpx (s : State) : Result :=
  runInstr andZpxCode s

/-- `AND`, opcode 39, format ABY (rules R240, R142). -/
def andAbyCode : Micro :=
  { cycles := patAbsIndexedR .y, exec := opAnd }

/-- The meaning of `AND`, opcode 39 (rule R240). -/
def execAndAby (s : State) : Result :=
  runInstr andAbyCode s

/-- `AND`, opcode 3D, format ABX (rules R240, R142). -/
def andAbxCode : Micro :=
  { cycles := patAbsIndexedR .x, exec := opAnd }

/-- The meaning of `AND`, opcode 3D (rule R240). -/
def execAndAbx (s : State) : Result :=
  runInstr andAbxCode s

/-- `ORA`, opcode 01, format IZX (rules R241, R145). -/
def oraIzxCode : Micro :=
  { cycles := patIzxR, exec := opOra }

/-- The meaning of `ORA`, opcode 01 (rule R241). -/
def execOraIzx (s : State) : Result :=
  runInstr oraIzxCode s

/-- `ORA`, opcode 05, format ZP (rules R241, R135). -/
def oraZpCode : Micro :=
  { cycles := patZpR, exec := opOra }

/-- The meaning of `ORA`, opcode 05 (rule R241). -/
def execOraZp (s : State) : Result :=
  runInstr oraZpCode s

/-- `ORA`, opcode 09, format IMM (rules R241, R134). -/
def oraImmCode : Micro :=
  { cycles := patImm, exec := opOra }

/-- The meaning of `ORA`, opcode 09 (rule R241). -/
def execOraImm (s : State) : Result :=
  runInstr oraImmCode s

/-- `ORA`, opcode 0D, format ABS (rules R241, R140). -/
def oraAbsCode : Micro :=
  { cycles := patAbsR, exec := opOra }

/-- The meaning of `ORA`, opcode 0D (rule R241). -/
def execOraAbs (s : State) : Result :=
  runInstr oraAbsCode s

/-- `ORA`, opcode 11, format IZY (rules R241, R147). -/
def oraIzyCode : Micro :=
  { cycles := patIzyR, exec := opOra }

/-- The meaning of `ORA`, opcode 11 (rule R241). -/
def execOraIzy (s : State) : Result :=
  runInstr oraIzyCode s

/-- `ORA`, opcode 15, format ZPX (rules R241, R138). -/
def oraZpxCode : Micro :=
  { cycles := patZpIndexedR .x, exec := opOra }

/-- The meaning of `ORA`, opcode 15 (rule R241). -/
def execOraZpx (s : State) : Result :=
  runInstr oraZpxCode s

/-- `ORA`, opcode 19, format ABY (rules R241, R142). -/
def oraAbyCode : Micro :=
  { cycles := patAbsIndexedR .y, exec := opOra }

/-- The meaning of `ORA`, opcode 19 (rule R241). -/
def execOraAby (s : State) : Result :=
  runInstr oraAbyCode s

/-- `ORA`, opcode 1D, format ABX (rules R241, R142). -/
def oraAbxCode : Micro :=
  { cycles := patAbsIndexedR .x, exec := opOra }

/-- The meaning of `ORA`, opcode 1D (rule R241). -/
def execOraAbx (s : State) : Result :=
  runInstr oraAbxCode s

/-- `EOR`, opcode 41, format IZX (rules R242, R145). -/
def eorIzxCode : Micro :=
  { cycles := patIzxR, exec := opEor }

/-- The meaning of `EOR`, opcode 41 (rule R242). -/
def execEorIzx (s : State) : Result :=
  runInstr eorIzxCode s

/-- `EOR`, opcode 45, format ZP (rules R242, R135). -/
def eorZpCode : Micro :=
  { cycles := patZpR, exec := opEor }

/-- The meaning of `EOR`, opcode 45 (rule R242). -/
def execEorZp (s : State) : Result :=
  runInstr eorZpCode s

/-- `EOR`, opcode 49, format IMM (rules R242, R134). -/
def eorImmCode : Micro :=
  { cycles := patImm, exec := opEor }

/-- The meaning of `EOR`, opcode 49 (rule R242). -/
def execEorImm (s : State) : Result :=
  runInstr eorImmCode s

/-- `EOR`, opcode 4D, format ABS (rules R242, R140). -/
def eorAbsCode : Micro :=
  { cycles := patAbsR, exec := opEor }

/-- The meaning of `EOR`, opcode 4D (rule R242). -/
def execEorAbs (s : State) : Result :=
  runInstr eorAbsCode s

/-- `EOR`, opcode 51, format IZY (rules R242, R147). -/
def eorIzyCode : Micro :=
  { cycles := patIzyR, exec := opEor }

/-- The meaning of `EOR`, opcode 51 (rule R242). -/
def execEorIzy (s : State) : Result :=
  runInstr eorIzyCode s

/-- `EOR`, opcode 55, format ZPX (rules R242, R138). -/
def eorZpxCode : Micro :=
  { cycles := patZpIndexedR .x, exec := opEor }

/-- The meaning of `EOR`, opcode 55 (rule R242). -/
def execEorZpx (s : State) : Result :=
  runInstr eorZpxCode s

/-- `EOR`, opcode 59, format ABY (rules R242, R142). -/
def eorAbyCode : Micro :=
  { cycles := patAbsIndexedR .y, exec := opEor }

/-- The meaning of `EOR`, opcode 59 (rule R242). -/
def execEorAby (s : State) : Result :=
  runInstr eorAbyCode s

/-- `EOR`, opcode 5D, format ABX (rules R242, R142). -/
def eorAbxCode : Micro :=
  { cycles := patAbsIndexedR .x, exec := opEor }

/-- The meaning of `EOR`, opcode 5D (rule R242). -/
def execEorAbx (s : State) : Result :=
  runInstr eorAbxCode s

/-- `BIT`, opcode 24, format ZP (rules R243, R135). -/
def bitZpCode : Micro :=
  { cycles := patZpR, exec := opBit }

/-- The meaning of `BIT`, opcode 24 (rule R243). -/
def execBitZp (s : State) : Result :=
  runInstr bitZpCode s

/-- `BIT`, opcode 2C, format ABS (rules R243, R140). -/
def bitAbsCode : Micro :=
  { cycles := patAbsR, exec := opBit }

/-- The meaning of `BIT`, opcode 2C (rule R243). -/
def execBitAbs (s : State) : Result :=
  runInstr bitAbsCode s

/-- `ASL`, opcode 06, format ZP (rules R244, R137). -/
def aslZpCode : Micro :=
  { cycles := patZpM, f := shiftMemory shiftLeft }

/-- The meaning of `ASL`, opcode 06 (rule R244). -/
def execAslZp (s : State) : Result :=
  runInstr aslZpCode s

/-- `ASL`, opcode 0A, format ACC (rules R244, R133). -/
def aslAccCode : Micro :=
  { cycles := patImp, exec := shiftAcc shiftLeft }

/-- The meaning of `ASL`, opcode 0A (rule R244). -/
def execAslAcc (s : State) : Result :=
  runInstr aslAccCode s

/-- `ASL`, opcode 0E, format ABS (rules R244, R141). -/
def aslAbsCode : Micro :=
  { cycles := patAbsM, f := shiftMemory shiftLeft }

/-- The meaning of `ASL`, opcode 0E (rule R244). -/
def execAslAbs (s : State) : Result :=
  runInstr aslAbsCode s

/-- `ASL`, opcode 16, format ZPX (rules R244, R138). -/
def aslZpxCode : Micro :=
  { cycles := patZpIndexedM .x, f := shiftMemory shiftLeft }

/-- The meaning of `ASL`, opcode 16 (rule R244). -/
def execAslZpx (s : State) : Result :=
  runInstr aslZpxCode s

/-- `ASL`, opcode 1E, format ABX (rules R244, R144). -/
def aslAbxCode : Micro :=
  { cycles := patAbsIndexedM .x, f := shiftMemory shiftLeft }

/-- The meaning of `ASL`, opcode 1E (rule R244). -/
def execAslAbx (s : State) : Result :=
  runInstr aslAbxCode s

/-- `LSR`, opcode 46, format ZP (rules R245, R137). -/
def lsrZpCode : Micro :=
  { cycles := patZpM, f := shiftMemory shiftRight }

/-- The meaning of `LSR`, opcode 46 (rule R245). -/
def execLsrZp (s : State) : Result :=
  runInstr lsrZpCode s

/-- `LSR`, opcode 4A, format ACC (rules R245, R133). -/
def lsrAccCode : Micro :=
  { cycles := patImp, exec := shiftAcc shiftRight }

/-- The meaning of `LSR`, opcode 4A (rule R245). -/
def execLsrAcc (s : State) : Result :=
  runInstr lsrAccCode s

/-- `LSR`, opcode 4E, format ABS (rules R245, R141). -/
def lsrAbsCode : Micro :=
  { cycles := patAbsM, f := shiftMemory shiftRight }

/-- The meaning of `LSR`, opcode 4E (rule R245). -/
def execLsrAbs (s : State) : Result :=
  runInstr lsrAbsCode s

/-- `LSR`, opcode 56, format ZPX (rules R245, R138). -/
def lsrZpxCode : Micro :=
  { cycles := patZpIndexedM .x, f := shiftMemory shiftRight }

/-- The meaning of `LSR`, opcode 56 (rule R245). -/
def execLsrZpx (s : State) : Result :=
  runInstr lsrZpxCode s

/-- `LSR`, opcode 5E, format ABX (rules R245, R144). -/
def lsrAbxCode : Micro :=
  { cycles := patAbsIndexedM .x, f := shiftMemory shiftRight }

/-- The meaning of `LSR`, opcode 5E (rule R245). -/
def execLsrAbx (s : State) : Result :=
  runInstr lsrAbxCode s

/-- `ROL`, opcode 26, format ZP (rules R246, R137). -/
def rolZpCode : Micro :=
  { cycles := patZpM, f := shiftMemory rotateLeft }

/-- The meaning of `ROL`, opcode 26 (rule R246). -/
def execRolZp (s : State) : Result :=
  runInstr rolZpCode s

/-- `ROL`, opcode 2A, format ACC (rules R246, R133). -/
def rolAccCode : Micro :=
  { cycles := patImp, exec := shiftAcc rotateLeft }

/-- The meaning of `ROL`, opcode 2A (rule R246). -/
def execRolAcc (s : State) : Result :=
  runInstr rolAccCode s

/-- `ROL`, opcode 2E, format ABS (rules R246, R141). -/
def rolAbsCode : Micro :=
  { cycles := patAbsM, f := shiftMemory rotateLeft }

/-- The meaning of `ROL`, opcode 2E (rule R246). -/
def execRolAbs (s : State) : Result :=
  runInstr rolAbsCode s

/-- `ROL`, opcode 36, format ZPX (rules R246, R138). -/
def rolZpxCode : Micro :=
  { cycles := patZpIndexedM .x, f := shiftMemory rotateLeft }

/-- The meaning of `ROL`, opcode 36 (rule R246). -/
def execRolZpx (s : State) : Result :=
  runInstr rolZpxCode s

/-- `ROL`, opcode 3E, format ABX (rules R246, R144). -/
def rolAbxCode : Micro :=
  { cycles := patAbsIndexedM .x, f := shiftMemory rotateLeft }

/-- The meaning of `ROL`, opcode 3E (rule R246). -/
def execRolAbx (s : State) : Result :=
  runInstr rolAbxCode s

/-- `ROR`, opcode 66, format ZP (rules R247, R137). -/
def rorZpCode : Micro :=
  { cycles := patZpM, f := shiftMemory rotateRight }

/-- The meaning of `ROR`, opcode 66 (rule R247). -/
def execRorZp (s : State) : Result :=
  runInstr rorZpCode s

/-- `ROR`, opcode 6A, format ACC (rules R247, R133). -/
def rorAccCode : Micro :=
  { cycles := patImp, exec := shiftAcc rotateRight }

/-- The meaning of `ROR`, opcode 6A (rule R247). -/
def execRorAcc (s : State) : Result :=
  runInstr rorAccCode s

/-- `ROR`, opcode 6E, format ABS (rules R247, R141). -/
def rorAbsCode : Micro :=
  { cycles := patAbsM, f := shiftMemory rotateRight }

/-- The meaning of `ROR`, opcode 6E (rule R247). -/
def execRorAbs (s : State) : Result :=
  runInstr rorAbsCode s

/-- `ROR`, opcode 76, format ZPX (rules R247, R138). -/
def rorZpxCode : Micro :=
  { cycles := patZpIndexedM .x, f := shiftMemory rotateRight }

/-- The meaning of `ROR`, opcode 76 (rule R247). -/
def execRorZpx (s : State) : Result :=
  runInstr rorZpxCode s

/-- `ROR`, opcode 7E, format ABX (rules R247, R144). -/
def rorAbxCode : Micro :=
  { cycles := patAbsIndexedM .x, f := shiftMemory rotateRight }

/-- The meaning of `ROR`, opcode 7E (rule R247). -/
def execRorAbx (s : State) : Result :=
  runInstr rorAbxCode s

end Sys2Proof.Machine
end

