-- ==== Sys2Proof/Machine/Control.lean ====
section
/-! DEFINITION. Sys2Proof/Machine/Control.lean: jumps, subroutines and branches (spec/45_control_transfer.md). Each
instruction is its pattern with its own operation; its meaning runs the two. -/

namespace Sys2Proof.Machine

/-! ## Instructions -/

/-- `JMP`, opcode 4C, format ABS (rules R260, R158). -/
def jmpAbsCode : Micro :=
  { cycles := patJmpAbs }

/-- The meaning of `JMP`, opcode 4C (rule R260). -/
def execJmpAbs (s : State) : Result :=
  runInstr jmpAbsCode s

/-- `JMP`, opcode 6C, format IND (rules R261, R159). -/
def jmpIndCode : Micro :=
  { cycles := patJmpInd }

/-- The meaning of `JMP`, opcode 6C (rule R261). -/
def execJmpInd (s : State) : Result :=
  runInstr jmpIndCode s

/-- `JSR`, opcode 20, format ABS (rules R262, R154). -/
def jsrCode : Micro :=
  { cycles := patJsr }

/-- The meaning of `JSR`, opcode 20 (rule R262). -/
def execJsr (s : State) : Result :=
  runInstr jsrCode s

/-- `RTS`, opcode 60, format IMP (rules R263, R155). -/
def rtsCode : Micro :=
  { cycles := patRts }

/-- The meaning of `RTS`, opcode 60 (rule R263). -/
def execRts (s : State) : Result :=
  runInstr rtsCode s

/-- `BCC`, opcode 90, format REL (rules R265, R151). -/
def bccCode : Micro :=
  { cycles := patRel, cond := fun r => !r.p.c }

/-- The meaning of `BCC`, opcode 90 (rule R265). -/
def execBcc (s : State) : Result :=
  runInstr bccCode s

/-- `BCS`, opcode B0, format REL (rules R266, R151). -/
def bcsCode : Micro :=
  { cycles := patRel, cond := fun r => r.p.c }

/-- The meaning of `BCS`, opcode B0 (rule R266). -/
def execBcs (s : State) : Result :=
  runInstr bcsCode s

/-- `BEQ`, opcode F0, format REL (rules R267, R151). -/
def beqCode : Micro :=
  { cycles := patRel, cond := fun r => r.p.z }

/-- The meaning of `BEQ`, opcode F0 (rule R267). -/
def execBeq (s : State) : Result :=
  runInstr beqCode s

/-- `BNE`, opcode D0, format REL (rules R268, R151). -/
def bneCode : Micro :=
  { cycles := patRel, cond := fun r => !r.p.z }

/-- The meaning of `BNE`, opcode D0 (rule R268). -/
def execBne (s : State) : Result :=
  runInstr bneCode s

/-- `BMI`, opcode 30, format REL (rules R269, R151). -/
def bmiCode : Micro :=
  { cycles := patRel, cond := fun r => r.p.n }

/-- The meaning of `BMI`, opcode 30 (rule R269). -/
def execBmi (s : State) : Result :=
  runInstr bmiCode s

/-- `BPL`, opcode 10, format REL (rules R270, R151). -/
def bplCode : Micro :=
  { cycles := patRel, cond := fun r => !r.p.n }

/-- The meaning of `BPL`, opcode 10 (rule R270). -/
def execBpl (s : State) : Result :=
  runInstr bplCode s

/-- `BVC`, opcode 50, format REL (rules R271, R151). -/
def bvcCode : Micro :=
  { cycles := patRel, cond := fun r => !r.p.v }

/-- The meaning of `BVC`, opcode 50 (rule R271). -/
def execBvc (s : State) : Result :=
  runInstr bvcCode s

/-- `BVS`, opcode 70, format REL (rules R272, R151). -/
def bvsCode : Micro :=
  { cycles := patRel, cond := fun r => r.p.v }

/-- The meaning of `BVS`, opcode 70 (rule R272). -/
def execBvs (s : State) : Result :=
  runInstr bvsCode s

end Sys2Proof.Machine
end

