-- ==== Sys2Proof/Machine/System.lean ====
section
/-! DEFINITION. Sys2Proof/Machine/System.lean: flag instructions, `NOP`, `BRK` and `RTI` (spec/46_flags_system.md). Each
instruction is its pattern with its own operation; its meaning runs the two. -/

namespace Sys2Proof.Machine

/-! ## Operations -/

/-- `CLC` (rule R280). -/
def opClc (r : Regs) (_ : Byte) : Regs :=
  { r with p := { r.p with c := false } }

/-- `SEC` (rule R281). -/
def opSec (r : Regs) (_ : Byte) : Regs :=
  { r with p := { r.p with c := true } }

/-- `CLI` (rule R282). -/
def opCli (r : Regs) (_ : Byte) : Regs :=
  { r with p := { r.p with i := false } }

/-- `SEI` (rule R283). -/
def opSei (r : Regs) (_ : Byte) : Regs :=
  { r with p := { r.p with i := true } }

/-- `CLD` (rule R284). -/
def opCld (r : Regs) (_ : Byte) : Regs :=
  { r with p := { r.p with d := false } }

/-- `SED` (rule R285). -/
def opSed (r : Regs) (_ : Byte) : Regs :=
  { r with p := { r.p with d := true } }

/-- `CLV` (rule R286). -/
def opClv (r : Regs) (_ : Byte) : Regs :=
  { r with p := { r.p with v := false } }

/-! ## Instructions -/

/-- `CLC`, opcode 18, format IMP (rules R280, R133). -/
def clcCode : Micro :=
  { cycles := patImp, exec := opClc }

/-- The meaning of `CLC`, opcode 18 (rule R280). -/
def execClc (s : State) : Result :=
  runInstr clcCode s

/-- `SEC`, opcode 38, format IMP (rules R281, R133). -/
def secCode : Micro :=
  { cycles := patImp, exec := opSec }

/-- The meaning of `SEC`, opcode 38 (rule R281). -/
def execSec (s : State) : Result :=
  runInstr secCode s

/-- `CLI`, opcode 58, format IMP (rules R282, R133). -/
def cliCode : Micro :=
  { cycles := patImp, exec := opCli }

/-- The meaning of `CLI`, opcode 58 (rule R282). -/
def execCli (s : State) : Result :=
  runInstr cliCode s

/-- `SEI`, opcode 78, format IMP (rules R283, R133). -/
def seiCode : Micro :=
  { cycles := patImp, exec := opSei }

/-- The meaning of `SEI`, opcode 78 (rule R283). -/
def execSei (s : State) : Result :=
  runInstr seiCode s

/-- `CLD`, opcode D8, format IMP (rules R284, R133). -/
def cldCode : Micro :=
  { cycles := patImp, exec := opCld }

/-- The meaning of `CLD`, opcode D8 (rule R284). -/
def execCld (s : State) : Result :=
  runInstr cldCode s

/-- `SED`, opcode F8, format IMP (rules R285, R133). -/
def sedCode : Micro :=
  { cycles := patImp, exec := opSed }

/-- The meaning of `SED`, opcode F8 (rule R285). -/
def execSed (s : State) : Result :=
  runInstr sedCode s

/-- `CLV`, opcode B8, format IMP (rules R286, R133). -/
def clvCode : Micro :=
  { cycles := patImp, exec := opClv }

/-- The meaning of `CLV`, opcode B8 (rule R286). -/
def execClv (s : State) : Result :=
  runInstr clvCode s

/-- `NOP`, opcode EA, format IMP (rules R287, R133). -/
def nopCode : Micro :=
  { cycles := patImp }

/-- The meaning of `NOP`, opcode EA (rule R287). -/
def execNop (s : State) : Result :=
  runInstr nopCode s

/-- `BRK`, opcode 00, format IMP (rules R288, R157). -/
def brkCode : Micro :=
  { cycles := patBrk }

/-- The meaning of `BRK`, opcode 00 (rule R288). -/
def execBrk (s : State) : Result :=
  runInstr brkCode s

/-- `RTI`, opcode 40, format IMP (rules R289, R156). -/
def rtiCode : Micro :=
  { cycles := patRti }

/-- The meaning of `RTI`, opcode 40 (rule R289). -/
def execRti (s : State) : Result :=
  runInstr rtiCode s

end Sys2Proof.Machine
end

