-- ==== Sys2Proof/Machine/Microcode.lean ====
section
/-! DEFINITION. Sys2Proof/Machine/Microcode.lean: the pattern and the operation of every opcode, by
instruction (rule R130), and what an undefined opcode runs (rules R300 to R302). -/

namespace Sys2Proof.Machine

/-- The pattern and operation of a defined instruction; an undefined opcode has none (rules R115, R130). -/
def definedMicro : Instr → Option Micro
  | .brk => some brkCode
  | .oraIzx => some oraIzxCode
  | .und02 => none
  | .und03 => none
  | .und04 => none
  | .oraZp => some oraZpCode
  | .aslZp => some aslZpCode
  | .und07 => none
  | .php => some phpCode
  | .oraImm => some oraImmCode
  | .aslAcc => some aslAccCode
  | .und0B => none
  | .und0C => none
  | .oraAbs => some oraAbsCode
  | .aslAbs => some aslAbsCode
  | .und0F => none
  | .bpl => some bplCode
  | .oraIzy => some oraIzyCode
  | .und12 => none
  | .und13 => none
  | .und14 => none
  | .oraZpx => some oraZpxCode
  | .aslZpx => some aslZpxCode
  | .und17 => none
  | .clc => some clcCode
  | .oraAby => some oraAbyCode
  | .und1A => none
  | .und1B => none
  | .und1C => none
  | .oraAbx => some oraAbxCode
  | .aslAbx => some aslAbxCode
  | .und1F => none
  | .jsr => some jsrCode
  | .andIzx => some andIzxCode
  | .und22 => none
  | .und23 => none
  | .bitZp => some bitZpCode
  | .andZp => some andZpCode
  | .rolZp => some rolZpCode
  | .und27 => none
  | .plp => some plpCode
  | .andImm => some andImmCode
  | .rolAcc => some rolAccCode
  | .und2B => none
  | .bitAbs => some bitAbsCode
  | .andAbs => some andAbsCode
  | .rolAbs => some rolAbsCode
  | .und2F => none
  | .bmi => some bmiCode
  | .andIzy => some andIzyCode
  | .und32 => none
  | .und33 => none
  | .und34 => none
  | .andZpx => some andZpxCode
  | .rolZpx => some rolZpxCode
  | .und37 => none
  | .sec => some secCode
  | .andAby => some andAbyCode
  | .und3A => none
  | .und3B => none
  | .und3C => none
  | .andAbx => some andAbxCode
  | .rolAbx => some rolAbxCode
  | .und3F => none
  | .rti => some rtiCode
  | .eorIzx => some eorIzxCode
  | .und42 => none
  | .und43 => none
  | .und44 => none
  | .eorZp => some eorZpCode
  | .lsrZp => some lsrZpCode
  | .und47 => none
  | .pha => some phaCode
  | .eorImm => some eorImmCode
  | .lsrAcc => some lsrAccCode
  | .und4B => none
  | .jmpAbs => some jmpAbsCode
  | .eorAbs => some eorAbsCode
  | .lsrAbs => some lsrAbsCode
  | .und4F => none
  | .bvc => some bvcCode
  | .eorIzy => some eorIzyCode
  | .und52 => none
  | .und53 => none
  | .und54 => none
  | .eorZpx => some eorZpxCode
  | .lsrZpx => some lsrZpxCode
  | .und57 => none
  | .cli => some cliCode
  | .eorAby => some eorAbyCode
  | .und5A => none
  | .und5B => none
  | .und5C => none
  | .eorAbx => some eorAbxCode
  | .lsrAbx => some lsrAbxCode
  | .und5F => none
  | .rts => some rtsCode
  | .adcIzx => some adcIzxCode
  | .und62 => none
  | .und63 => none
  | .und64 => none
  | .adcZp => some adcZpCode
  | .rorZp => some rorZpCode
  | .und67 => none
  | .pla => some plaCode
  | .adcImm => some adcImmCode
  | .rorAcc => some rorAccCode
  | .und6B => none
  | .jmpInd => some jmpIndCode
  | .adcAbs => some adcAbsCode
  | .rorAbs => some rorAbsCode
  | .und6F => none
  | .bvs => some bvsCode
  | .adcIzy => some adcIzyCode
  | .und72 => none
  | .und73 => none
  | .und74 => none
  | .adcZpx => some adcZpxCode
  | .rorZpx => some rorZpxCode
  | .und77 => none
  | .sei => some seiCode
  | .adcAby => some adcAbyCode
  | .und7A => none
  | .und7B => none
  | .und7C => none
  | .adcAbx => some adcAbxCode
  | .rorAbx => some rorAbxCode
  | .und7F => none
  | .und80 => none
  | .staIzx => some staIzxCode
  | .und82 => none
  | .und83 => none
  | .styZp => some styZpCode
  | .staZp => some staZpCode
  | .stxZp => some stxZpCode
  | .und87 => none
  | .dey => some deyCode
  | .und89 => none
  | .txa => some txaCode
  | .und8B => none
  | .styAbs => some styAbsCode
  | .staAbs => some staAbsCode
  | .stxAbs => some stxAbsCode
  | .und8F => none
  | .bcc => some bccCode
  | .staIzy => some staIzyCode
  | .und92 => none
  | .und93 => none
  | .styZpx => some styZpxCode
  | .staZpx => some staZpxCode
  | .stxZpy => some stxZpyCode
  | .und97 => none
  | .tya => some tyaCode
  | .staAby => some staAbyCode
  | .txs => some txsCode
  | .und9B => none
  | .und9C => none
  | .staAbx => some staAbxCode
  | .und9E => none
  | .und9F => none
  | .ldyImm => some ldyImmCode
  | .ldaIzx => some ldaIzxCode
  | .ldxImm => some ldxImmCode
  | .undA3 => none
  | .ldyZp => some ldyZpCode
  | .ldaZp => some ldaZpCode
  | .ldxZp => some ldxZpCode
  | .undA7 => none
  | .tay => some tayCode
  | .ldaImm => some ldaImmCode
  | .tax => some taxCode
  | .undAB => none
  | .ldyAbs => some ldyAbsCode
  | .ldaAbs => some ldaAbsCode
  | .ldxAbs => some ldxAbsCode
  | .undAF => none
  | .bcs => some bcsCode
  | .ldaIzy => some ldaIzyCode
  | .undB2 => none
  | .undB3 => none
  | .ldyZpx => some ldyZpxCode
  | .ldaZpx => some ldaZpxCode
  | .ldxZpy => some ldxZpyCode
  | .undB7 => none
  | .clv => some clvCode
  | .ldaAby => some ldaAbyCode
  | .tsx => some tsxCode
  | .undBB => none
  | .ldyAbx => some ldyAbxCode
  | .ldaAbx => some ldaAbxCode
  | .ldxAby => some ldxAbyCode
  | .undBF => none
  | .cpyImm => some cpyImmCode
  | .cmpIzx => some cmpIzxCode
  | .undC2 => none
  | .undC3 => none
  | .cpyZp => some cpyZpCode
  | .cmpZp => some cmpZpCode
  | .decZp => some decZpCode
  | .undC7 => none
  | .iny => some inyCode
  | .cmpImm => some cmpImmCode
  | .dex => some dexCode
  | .undCB => none
  | .cpyAbs => some cpyAbsCode
  | .cmpAbs => some cmpAbsCode
  | .decAbs => some decAbsCode
  | .undCF => none
  | .bne => some bneCode
  | .cmpIzy => some cmpIzyCode
  | .undD2 => none
  | .undD3 => none
  | .undD4 => none
  | .cmpZpx => some cmpZpxCode
  | .decZpx => some decZpxCode
  | .undD7 => none
  | .cld => some cldCode
  | .cmpAby => some cmpAbyCode
  | .undDA => none
  | .undDB => none
  | .undDC => none
  | .cmpAbx => some cmpAbxCode
  | .decAbx => some decAbxCode
  | .undDF => none
  | .cpxImm => some cpxImmCode
  | .sbcIzx => some sbcIzxCode
  | .undE2 => none
  | .undE3 => none
  | .cpxZp => some cpxZpCode
  | .sbcZp => some sbcZpCode
  | .incZp => some incZpCode
  | .undE7 => none
  | .inx => some inxCode
  | .sbcImm => some sbcImmCode
  | .nop => some nopCode
  | .undEB => none
  | .cpxAbs => some cpxAbsCode
  | .sbcAbs => some sbcAbsCode
  | .incAbs => some incAbsCode
  | .undEF => none
  | .beq => some beqCode
  | .sbcIzy => some sbcIzyCode
  | .undF2 => none
  | .undF3 => none
  | .undF4 => none
  | .sbcZpx => some sbcZpxCode
  | .incZpx => some incZpxCode
  | .undF7 => none
  | .sed => some sedCode
  | .sbcAby => some sbcAbyCode
  | .undFA => none
  | .undFB => none
  | .undFC => none
  | .sbcAbx => some sbcAbxCode
  | .incAbx => some incAbxCode
  | .undFF => none

/-- The operations of a defined instruction, for use in `PSEUDO_TABLE` (rule R302). -/
def operationsOf (i : Instr) : Micro :=
  (definedMicro i).getD (.nothing [])

/-- The `exec` of a `PSEUDO_TABLE` entry: those of its `reads`, in order (rule R302). -/
def pseudoExec (e : PseudoEntry) (r : Regs) (b : Byte) : Regs :=
  e.reads.foldl (fun r i => (operationsOf i).exec r b) r

/-- The `f` of a `PSEUDO_TABLE` entry: that of its `modify`, then `exec` on the byte it gives (rule R302). -/
def pseudoModify (e : PseudoEntry) (r : Regs) (v : Byte) : Byte × Regs :=
  match e.modify with
  | none => (v, pseudoExec e r v)
  | some i =>
    let q := (operationsOf i).f r v
    (q.1, pseudoExec e q.2 q.1)

/-- The `val` of a `PSEUDO_TABLE` entry: the conjunction of those of its `stores` (rule R302). -/
def pseudoVal (e : PseudoEntry) (r : Regs) : Byte :=
  e.stores.foldl (fun v i => v &&& (operationsOf i).val r) 0xFF#8

/-- The condition of a `PSEUDO_TABLE` entry: those of its `tests`, all together (rule R302). -/
def pseudoTest (e : PseudoEntry) (r : Regs) : Bool :=
  e.tests.all fun i => (operationsOf i).cond r

/-- What an opcode of class `Pseudo` runs (rule R302): its tick table, and an operation put together from
those of defined instructions, or an arbitrary one. -/
def pseudoMicro (e : PseudoEntry) : Micro :=
  if e.free then
    { cycles := e.cycles
      exec := Config.openPseudoExec e.op
      val := Config.openPseudoVal e.op
      f := Config.openPseudoModify e.op
      cond := Config.openPseudoTest e.op }
  else
    { cycles := e.cycles, exec := pseudoExec e, val := pseudoVal e, f := pseudoModify e, cond := pseudoTest e }

/-- What decode makes of an opcode byte (rules R103, R300): a pattern to run, the illegal-instruction
condition, or an opcode of class `Pseudo` without an entry. -/
inductive OpClass where
  | pattern (m : Micro)
  | illegal
  | missing

/-- The class of an undefined opcode (rules R300, R302). -/
def undefinedClass (c : Config) (op : Byte) : OpClass :=
  if c.pseudoOpcodes.contains op then
    match c.pseudoTable.find? fun e => e.op == op with
    | some e => .pattern (pseudoMicro e)
    | none => .missing
  else .illegal

/-- Decode of an opcode byte, total (rule R103). -/
def classify (c : Config) (op : Byte) : OpClass :=
  match definedMicro (decodeOpcode op) with
  | some m => .pattern m
  | none => undefinedClass c op

end Sys2Proof.Machine
end

