-- ==== Sys2Proof/Machine/Undefined.lean ====
section
/-! DEFINITION. Sys2Proof/Machine/Undefined.lean: the 105 undefined opcodes
(spec/47_undefined_opcodes.md). -/

namespace Sys2Proof.Machine

/-- An undefined opcode, by its class (rules R300 to R306). -/
def runUndefined (op : Byte) (s : State) : Result :=
  match undefinedClass s.cfg op with
  | .pattern m => runInstr m s
  | .illegal => runIllegal op s
  | .missing => .refused (.pseudoWithoutEntry op)

/-- The meaning of the undefined opcode 02 (rules R115, R300). -/
def execUnd02 (s : State) : Result :=
  runUndefined 0x02#8 s

/-- The meaning of the undefined opcode 03 (rules R115, R300). -/
def execUnd03 (s : State) : Result :=
  runUndefined 0x03#8 s

/-- The meaning of the undefined opcode 04 (rules R115, R300). -/
def execUnd04 (s : State) : Result :=
  runUndefined 0x04#8 s

/-- The meaning of the undefined opcode 07 (rules R115, R300). -/
def execUnd07 (s : State) : Result :=
  runUndefined 0x07#8 s

/-- The meaning of the undefined opcode 0B (rules R115, R300). -/
def execUnd0B (s : State) : Result :=
  runUndefined 0x0B#8 s

/-- The meaning of the undefined opcode 0C (rules R115, R300). -/
def execUnd0C (s : State) : Result :=
  runUndefined 0x0C#8 s

/-- The meaning of the undefined opcode 0F (rules R115, R300). -/
def execUnd0F (s : State) : Result :=
  runUndefined 0x0F#8 s

/-- The meaning of the undefined opcode 12 (rules R115, R300). -/
def execUnd12 (s : State) : Result :=
  runUndefined 0x12#8 s

/-- The meaning of the undefined opcode 13 (rules R115, R300). -/
def execUnd13 (s : State) : Result :=
  runUndefined 0x13#8 s

/-- The meaning of the undefined opcode 14 (rules R115, R300). -/
def execUnd14 (s : State) : Result :=
  runUndefined 0x14#8 s

/-- The meaning of the undefined opcode 17 (rules R115, R300). -/
def execUnd17 (s : State) : Result :=
  runUndefined 0x17#8 s

/-- The meaning of the undefined opcode 1A (rules R115, R300). -/
def execUnd1A (s : State) : Result :=
  runUndefined 0x1A#8 s

/-- The meaning of the undefined opcode 1B (rules R115, R300). -/
def execUnd1B (s : State) : Result :=
  runUndefined 0x1B#8 s

/-- The meaning of the undefined opcode 1C (rules R115, R300). -/
def execUnd1C (s : State) : Result :=
  runUndefined 0x1C#8 s

/-- The meaning of the undefined opcode 1F (rules R115, R300). -/
def execUnd1F (s : State) : Result :=
  runUndefined 0x1F#8 s

/-- The meaning of the undefined opcode 22 (rules R115, R300). -/
def execUnd22 (s : State) : Result :=
  runUndefined 0x22#8 s

/-- The meaning of the undefined opcode 23 (rules R115, R300). -/
def execUnd23 (s : State) : Result :=
  runUndefined 0x23#8 s

/-- The meaning of the undefined opcode 27 (rules R115, R300). -/
def execUnd27 (s : State) : Result :=
  runUndefined 0x27#8 s

/-- The meaning of the undefined opcode 2B (rules R115, R300). -/
def execUnd2B (s : State) : Result :=
  runUndefined 0x2B#8 s

/-- The meaning of the undefined opcode 2F (rules R115, R300). -/
def execUnd2F (s : State) : Result :=
  runUndefined 0x2F#8 s

/-- The meaning of the undefined opcode 32 (rules R115, R300). -/
def execUnd32 (s : State) : Result :=
  runUndefined 0x32#8 s

/-- The meaning of the undefined opcode 33 (rules R115, R300). -/
def execUnd33 (s : State) : Result :=
  runUndefined 0x33#8 s

/-- The meaning of the undefined opcode 34 (rules R115, R300). -/
def execUnd34 (s : State) : Result :=
  runUndefined 0x34#8 s

/-- The meaning of the undefined opcode 37 (rules R115, R300). -/
def execUnd37 (s : State) : Result :=
  runUndefined 0x37#8 s

/-- The meaning of the undefined opcode 3A (rules R115, R300). -/
def execUnd3A (s : State) : Result :=
  runUndefined 0x3A#8 s

/-- The meaning of the undefined opcode 3B (rules R115, R300). -/
def execUnd3B (s : State) : Result :=
  runUndefined 0x3B#8 s

/-- The meaning of the undefined opcode 3C (rules R115, R300). -/
def execUnd3C (s : State) : Result :=
  runUndefined 0x3C#8 s

/-- The meaning of the undefined opcode 3F (rules R115, R300). -/
def execUnd3F (s : State) : Result :=
  runUndefined 0x3F#8 s

/-- The meaning of the undefined opcode 42 (rules R115, R300). -/
def execUnd42 (s : State) : Result :=
  runUndefined 0x42#8 s

/-- The meaning of the undefined opcode 43 (rules R115, R300). -/
def execUnd43 (s : State) : Result :=
  runUndefined 0x43#8 s

/-- The meaning of the undefined opcode 44 (rules R115, R300). -/
def execUnd44 (s : State) : Result :=
  runUndefined 0x44#8 s

/-- The meaning of the undefined opcode 47 (rules R115, R300). -/
def execUnd47 (s : State) : Result :=
  runUndefined 0x47#8 s

/-- The meaning of the undefined opcode 4B (rules R115, R300). -/
def execUnd4B (s : State) : Result :=
  runUndefined 0x4B#8 s

/-- The meaning of the undefined opcode 4F (rules R115, R300). -/
def execUnd4F (s : State) : Result :=
  runUndefined 0x4F#8 s

/-- The meaning of the undefined opcode 52 (rules R115, R300). -/
def execUnd52 (s : State) : Result :=
  runUndefined 0x52#8 s

/-- The meaning of the undefined opcode 53 (rules R115, R300). -/
def execUnd53 (s : State) : Result :=
  runUndefined 0x53#8 s

/-- The meaning of the undefined opcode 54 (rules R115, R300). -/
def execUnd54 (s : State) : Result :=
  runUndefined 0x54#8 s

/-- The meaning of the undefined opcode 57 (rules R115, R300). -/
def execUnd57 (s : State) : Result :=
  runUndefined 0x57#8 s

/-- The meaning of the undefined opcode 5A (rules R115, R300). -/
def execUnd5A (s : State) : Result :=
  runUndefined 0x5A#8 s

/-- The meaning of the undefined opcode 5B (rules R115, R300). -/
def execUnd5B (s : State) : Result :=
  runUndefined 0x5B#8 s

/-- The meaning of the undefined opcode 5C (rules R115, R300). -/
def execUnd5C (s : State) : Result :=
  runUndefined 0x5C#8 s

/-- The meaning of the undefined opcode 5F (rules R115, R300). -/
def execUnd5F (s : State) : Result :=
  runUndefined 0x5F#8 s

/-- The meaning of the undefined opcode 62 (rules R115, R300). -/
def execUnd62 (s : State) : Result :=
  runUndefined 0x62#8 s

/-- The meaning of the undefined opcode 63 (rules R115, R300). -/
def execUnd63 (s : State) : Result :=
  runUndefined 0x63#8 s

/-- The meaning of the undefined opcode 64 (rules R115, R300). -/
def execUnd64 (s : State) : Result :=
  runUndefined 0x64#8 s

/-- The meaning of the undefined opcode 67 (rules R115, R300). -/
def execUnd67 (s : State) : Result :=
  runUndefined 0x67#8 s

/-- The meaning of the undefined opcode 6B (rules R115, R300). -/
def execUnd6B (s : State) : Result :=
  runUndefined 0x6B#8 s

/-- The meaning of the undefined opcode 6F (rules R115, R300). -/
def execUnd6F (s : State) : Result :=
  runUndefined 0x6F#8 s

/-- The meaning of the undefined opcode 72 (rules R115, R300). -/
def execUnd72 (s : State) : Result :=
  runUndefined 0x72#8 s

/-- The meaning of the undefined opcode 73 (rules R115, R300). -/
def execUnd73 (s : State) : Result :=
  runUndefined 0x73#8 s

/-- The meaning of the undefined opcode 74 (rules R115, R300). -/
def execUnd74 (s : State) : Result :=
  runUndefined 0x74#8 s

/-- The meaning of the undefined opcode 77 (rules R115, R300). -/
def execUnd77 (s : State) : Result :=
  runUndefined 0x77#8 s

/-- The meaning of the undefined opcode 7A (rules R115, R300). -/
def execUnd7A (s : State) : Result :=
  runUndefined 0x7A#8 s

/-- The meaning of the undefined opcode 7B (rules R115, R300). -/
def execUnd7B (s : State) : Result :=
  runUndefined 0x7B#8 s

/-- The meaning of the undefined opcode 7C (rules R115, R300). -/
def execUnd7C (s : State) : Result :=
  runUndefined 0x7C#8 s

/-- The meaning of the undefined opcode 7F (rules R115, R300). -/
def execUnd7F (s : State) : Result :=
  runUndefined 0x7F#8 s

/-- The meaning of the undefined opcode 80 (rules R115, R300). -/
def execUnd80 (s : State) : Result :=
  runUndefined 0x80#8 s

/-- The meaning of the undefined opcode 82 (rules R115, R300). -/
def execUnd82 (s : State) : Result :=
  runUndefined 0x82#8 s

/-- The meaning of the undefined opcode 83 (rules R115, R300). -/
def execUnd83 (s : State) : Result :=
  runUndefined 0x83#8 s

/-- The meaning of the undefined opcode 87 (rules R115, R300). -/
def execUnd87 (s : State) : Result :=
  runUndefined 0x87#8 s

/-- The meaning of the undefined opcode 89 (rules R115, R300). -/
def execUnd89 (s : State) : Result :=
  runUndefined 0x89#8 s

/-- The meaning of the undefined opcode 8B (rules R115, R300). -/
def execUnd8B (s : State) : Result :=
  runUndefined 0x8B#8 s

/-- The meaning of the undefined opcode 8F (rules R115, R300). -/
def execUnd8F (s : State) : Result :=
  runUndefined 0x8F#8 s

/-- The meaning of the undefined opcode 92 (rules R115, R300). -/
def execUnd92 (s : State) : Result :=
  runUndefined 0x92#8 s

/-- The meaning of the undefined opcode 93 (rules R115, R300). -/
def execUnd93 (s : State) : Result :=
  runUndefined 0x93#8 s

/-- The meaning of the undefined opcode 97 (rules R115, R300). -/
def execUnd97 (s : State) : Result :=
  runUndefined 0x97#8 s

/-- The meaning of the undefined opcode 9B (rules R115, R300). -/
def execUnd9B (s : State) : Result :=
  runUndefined 0x9B#8 s

/-- The meaning of the undefined opcode 9C (rules R115, R300). -/
def execUnd9C (s : State) : Result :=
  runUndefined 0x9C#8 s

/-- The meaning of the undefined opcode 9E (rules R115, R300). -/
def execUnd9E (s : State) : Result :=
  runUndefined 0x9E#8 s

/-- The meaning of the undefined opcode 9F (rules R115, R300). -/
def execUnd9F (s : State) : Result :=
  runUndefined 0x9F#8 s

/-- The meaning of the undefined opcode A3 (rules R115, R300). -/
def execUndA3 (s : State) : Result :=
  runUndefined 0xA3#8 s

/-- The meaning of the undefined opcode A7 (rules R115, R300). -/
def execUndA7 (s : State) : Result :=
  runUndefined 0xA7#8 s

/-- The meaning of the undefined opcode AB (rules R115, R300). -/
def execUndAB (s : State) : Result :=
  runUndefined 0xAB#8 s

/-- The meaning of the undefined opcode AF (rules R115, R300). -/
def execUndAF (s : State) : Result :=
  runUndefined 0xAF#8 s

/-- The meaning of the undefined opcode B2 (rules R115, R300). -/
def execUndB2 (s : State) : Result :=
  runUndefined 0xB2#8 s

/-- The meaning of the undefined opcode B3 (rules R115, R300). -/
def execUndB3 (s : State) : Result :=
  runUndefined 0xB3#8 s

/-- The meaning of the undefined opcode B7 (rules R115, R300). -/
def execUndB7 (s : State) : Result :=
  runUndefined 0xB7#8 s

/-- The meaning of the undefined opcode BB (rules R115, R300). -/
def execUndBB (s : State) : Result :=
  runUndefined 0xBB#8 s

/-- The meaning of the undefined opcode BF (rules R115, R300). -/
def execUndBF (s : State) : Result :=
  runUndefined 0xBF#8 s

/-- The meaning of the undefined opcode C2 (rules R115, R300). -/
def execUndC2 (s : State) : Result :=
  runUndefined 0xC2#8 s

/-- The meaning of the undefined opcode C3 (rules R115, R300). -/
def execUndC3 (s : State) : Result :=
  runUndefined 0xC3#8 s

/-- The meaning of the undefined opcode C7 (rules R115, R300). -/
def execUndC7 (s : State) : Result :=
  runUndefined 0xC7#8 s

/-- The meaning of the undefined opcode CB (rules R115, R300). -/
def execUndCB (s : State) : Result :=
  runUndefined 0xCB#8 s

/-- The meaning of the undefined opcode CF (rules R115, R300). -/
def execUndCF (s : State) : Result :=
  runUndefined 0xCF#8 s

/-- The meaning of the undefined opcode D2 (rules R115, R300). -/
def execUndD2 (s : State) : Result :=
  runUndefined 0xD2#8 s

/-- The meaning of the undefined opcode D3 (rules R115, R300). -/
def execUndD3 (s : State) : Result :=
  runUndefined 0xD3#8 s

/-- The meaning of the undefined opcode D4 (rules R115, R300). -/
def execUndD4 (s : State) : Result :=
  runUndefined 0xD4#8 s

/-- The meaning of the undefined opcode D7 (rules R115, R300). -/
def execUndD7 (s : State) : Result :=
  runUndefined 0xD7#8 s

/-- The meaning of the undefined opcode DA (rules R115, R300). -/
def execUndDA (s : State) : Result :=
  runUndefined 0xDA#8 s

/-- The meaning of the undefined opcode DB (rules R115, R300). -/
def execUndDB (s : State) : Result :=
  runUndefined 0xDB#8 s

/-- The meaning of the undefined opcode DC (rules R115, R300). -/
def execUndDC (s : State) : Result :=
  runUndefined 0xDC#8 s

/-- The meaning of the undefined opcode DF (rules R115, R300). -/
def execUndDF (s : State) : Result :=
  runUndefined 0xDF#8 s

/-- The meaning of the undefined opcode E2 (rules R115, R300). -/
def execUndE2 (s : State) : Result :=
  runUndefined 0xE2#8 s

/-- The meaning of the undefined opcode E3 (rules R115, R300). -/
def execUndE3 (s : State) : Result :=
  runUndefined 0xE3#8 s

/-- The meaning of the undefined opcode E7 (rules R115, R300). -/
def execUndE7 (s : State) : Result :=
  runUndefined 0xE7#8 s

/-- The meaning of the undefined opcode EB (rules R115, R300). -/
def execUndEB (s : State) : Result :=
  runUndefined 0xEB#8 s

/-- The meaning of the undefined opcode EF (rules R115, R300). -/
def execUndEF (s : State) : Result :=
  runUndefined 0xEF#8 s

/-- The meaning of the undefined opcode F2 (rules R115, R300). -/
def execUndF2 (s : State) : Result :=
  runUndefined 0xF2#8 s

/-- The meaning of the undefined opcode F3 (rules R115, R300). -/
def execUndF3 (s : State) : Result :=
  runUndefined 0xF3#8 s

/-- The meaning of the undefined opcode F4 (rules R115, R300). -/
def execUndF4 (s : State) : Result :=
  runUndefined 0xF4#8 s

/-- The meaning of the undefined opcode F7 (rules R115, R300). -/
def execUndF7 (s : State) : Result :=
  runUndefined 0xF7#8 s

/-- The meaning of the undefined opcode FA (rules R115, R300). -/
def execUndFA (s : State) : Result :=
  runUndefined 0xFA#8 s

/-- The meaning of the undefined opcode FB (rules R115, R300). -/
def execUndFB (s : State) : Result :=
  runUndefined 0xFB#8 s

/-- The meaning of the undefined opcode FC (rules R115, R300). -/
def execUndFC (s : State) : Result :=
  runUndefined 0xFC#8 s

/-- The meaning of the undefined opcode FF (rules R115, R300). -/
def execUndFF (s : State) : Result :=
  runUndefined 0xFF#8 s

end Sys2Proof.Machine
end

