-- ==== Sys2Proof/Machine/Run.lean ====
section
/-! DEFINITION. Sys2Proof/Machine/Run.lean: the machine tick by tick (`tick()` of rule R70 with the core's
update of rule R420), the byte fetched at an instruction boundary, and what finishes an instruction or an
interrupt sequence from any of its ticks. -/

namespace Sys2Proof.Machine

/-! ## The machine tick by tick -/

/-- One row of a pattern or sequence, `rows` being that row and what follows it. -/
def rowTick (m : Micro) (mk : Nat → Phase) (n : Nat) (rows : List Cycle) (s : State) : Result :=
  match rows with
  | [] => .fault .noSuchTick
  | c :: rest => .next (cycleAct m (phaseAfter mk n rest) c s)

/-- The rows of an opcode's pattern from tick `n` on (rule R131: T2 is the first). -/
def patternRows (m : Micro) (n : Nat) : List Cycle :=
  if n < 2 then [] else m.cycles.drop (n - 2)

/-- The rows of an interrupt sequence from tick `k` on. -/
def sequenceRows (c : Config) (kind : SeqKind) (k : Nat) : List Cycle :=
  if k = 0 then [] else (sequenceCycles c kind).drop (k - 1)

/-- What an opcode runs after T1; an illegal opcode under `NoOp` runs as `NOP` (rules R103, R304). -/
def afterFetch (c : Config) (op : Byte) : Option Micro :=
  match classify c op with
  | .pattern m => some m
  | .illegal => some (.nothing illegalCycles)
  | .missing => none

/-- Tick T1 with its decode (rules R103, R131, R301). -/
def fetchTick (s : State) : Result :=
  let op := (busRead s.cpu.pc s).1
  match classify s.cfg op with
  | .pattern m => .next (fetchWith (beginPattern m) s)
  | .illegal => .next (fetchWith (raiseIllegal s.cfg.illegalAction op) s)
  | .missing => .refused (.pseudoWithoutEntry op)

/-- Tick `k` of an interrupt sequence (rule R425). -/
def sequenceTick (kind : SeqKind) (k : Nat) (s : State) : Result :=
  rowTick (.nothing []) .interruptSequence k (sequenceRows s.cfg kind k) s

/-- `Core.update()` (rule R420). -/
def coreUpdate (s : State) : Result :=
  match s.cpu.phase with
  | .halted => if s.cpu.pend.resetPending then sequenceTick .reset 1 s else .next s
  | .fetch =>
    match pollAt s.cfg.pollPoint s.cpu with
    | some kind => sequenceTick kind 1 s
    | none => fetchTick s
  | .executeCycle n =>
    match afterFetch s.cfg s.cpu.latch.ir with
    | some m => rowTick m .executeCycle n (patternRows m n) s
    | none => .refused (.pseudoWithoutEntry s.cpu.latch.ir)
  | .interruptSequence k => sequenceTick s.cpu.seqKind k s

/-- The core's part of a tick: its update, or nothing in a tick in which it idles (rules R71, R420). -/
def coreTurn (s : State) : Result :=
  if acts s.cfg.clockRates.core s.sched.tickCount then coreUpdate s else .next s

/-- `tick()` as rule R13 has it, the configuration and what the outside does being inputs: the boundary, the core's
update among the other chips' (rule R70). It does not look at the script of the state. -/
def tickOn (c : Config) (i : TickInput) (s : State) : Result :=
  if c.wellFormed then
    match coreTurn (beforeCore (boundaryOn i { s with cfg := c })) with
    | .next t => .next (afterCore t)
    | .fault e => .fault e
    | .refused e => .refused e
  else .refused .illFormedConfiguration

/-- `tick()` with the configuration and the script that stand in the state (notes/assumptions/2.md and 3.md). -/
def tick (s : State) : Result :=
  tickOn s.cfg s.nextInput s.dropInput

/-! ## Instruction by instruction -/

/-- The byte that T1 of the coming instruction reads at `PC` (rules R81, R131). -/
def fetchedByte (s : State) : Byte :=
  (busRead (coreView s).cpu.pc (coreView s)).1

/-- Runs the rest of a pattern or sequence to its end. -/
def finishRows (m : Micro) (mk : Nat → Phase) (n : Nat) (rows : List Cycle) (s : State) : Result :=
  match rows with
  | [] => .fault .noSuchTick
  | _ :: _ => .next (runCycles m mk n rows s)

/-- Finishes an instruction from tick `n` of its pattern (rule R161). -/
def finishInstruction (n : Nat) (s : State) : Result :=
  match afterFetch s.cfg s.cpu.latch.ir with
  | some m => finishRows m .executeCycle n (patternRows m n) s
  | none => .refused (.pseudoWithoutEntry s.cpu.latch.ir)

/-- Finishes an interrupt sequence from tick `k` (rule R425); at power-on this is the first RESET sequence
(rule R50). -/
def resumeSequence (k : Nat) (s : State) : Result :=
  finishRows (.nothing []) .interruptSequence k (sequenceRows s.cfg s.cpu.seqKind k) s

/-- A halted core (rule R305): the other chips run on for a tick; a remembered RESET starts its sequence. -/
def runHalted (s : State) : Result :=
  if (coreView s).cpu.pend.resetPending then .next (takeInterrupt .reset s) else .next (tickWith (fun t => t) s)

/-- Where the fetch of the machine reads: the opcode address and the two after it. -/
def fetchAddresses (pc : Addr) : List Addr :=
  [pc, pc + 1#16, pc + 2#16]

/-- Puts a byte into the memory that owns an address, writable or read-only. -/
def placeByte (s : State) (a : Addr) (v : Byte) : State :=
  if ramOwned s.cfg a then { s with mem := Memory.write s.mem a.toNat v }
  else { s with cfg := { s.cfg with rom := Memory.write s.cfg.rom a.toNat v } }

/-- Puts bytes where the fetch reads them. -/
def placeBytes (bs : List (Addr × Byte)) (s : State) : State :=
  bs.foldl (fun s c => placeByte s c.1 c.2) s

/-- The machine at an instruction boundary at which no interrupt is taken, with memory where the fetch
reads (notes/assumptions/34.md). -/
def State.readyToFetch (s : State) : State :=
  let u := { s.cpu with
    phase := .fetch
    pend := { s.cpu.pend with nmiPending := false, resetPending := false } }
  let c :=
    if (fetchAddresses s.cpu.pc).all (memoryOwned s.cfg) then s.cfg
    else { s.cfg with addressMap := [⟨0x0000, 0xFFFF, .ram⟩] }
  { s with cpu := u, cfg := c, sched := { s.sched with linesOut := [] } }

end Sys2Proof.Machine
end

