-- ==== Sys2Proof/Machine/Dispatch.lean ====
section
/-! DEFINITION. Sys2Proof/Machine/Dispatch.lean: one arm per instruction, each a direct call of its meaning. -/

namespace Sys2Proof.Machine

def exec (i : Instr) (s : State) : Host.Outcome State Fault Refusal :=
  match i with
  | .brk => Sys2Proof.Machine.execBrk s
  | .oraIzx => Sys2Proof.Machine.execOraIzx s
  | .und02 => Sys2Proof.Machine.execUnd02 s
  | .und03 => Sys2Proof.Machine.execUnd03 s
  | .und04 => Sys2Proof.Machine.execUnd04 s
  | .oraZp => Sys2Proof.Machine.execOraZp s
  | .aslZp => Sys2Proof.Machine.execAslZp s
  | .und07 => Sys2Proof.Machine.execUnd07 s
  | .php => Sys2Proof.Machine.execPhp s
  | .oraImm => Sys2Proof.Machine.execOraImm s
  | .aslAcc => Sys2Proof.Machine.execAslAcc s
  | .und0B => Sys2Proof.Machine.execUnd0B s
  | .und0C => Sys2Proof.Machine.execUnd0C s
  | .oraAbs => Sys2Proof.Machine.execOraAbs s
  | .aslAbs => Sys2Proof.Machine.execAslAbs s
  | .und0F => Sys2Proof.Machine.execUnd0F s
  | .bpl => Sys2Proof.Machine.execBpl s
  | .oraIzy => Sys2Proof.Machine.execOraIzy s
  | .und12 => Sys2Proof.Machine.execUnd12 s
  | .und13 => Sys2Proof.Machine.execUnd13 s
  | .und14 => Sys2Proof.Machine.execUnd14 s
  | .oraZpx => Sys2Proof.Machine.execOraZpx s
  | .aslZpx => Sys2Proof.Machine.execAslZpx s
  | .und17 => Sys2Proof.Machine.execUnd17 s
  | .clc => Sys2Proof.Machine.execClc s
  | .oraAby => Sys2Proof.Machine.execOraAby s
  | .und1A => Sys2Proof.Machine.execUnd1A s
  | .und1B => Sys2Proof.Machine.execUnd1B s
  | .und1C => Sys2Proof.Machine.execUnd1C s
  | .oraAbx => Sys2Proof.Machine.execOraAbx s
  | .aslAbx => Sys2Proof.Machine.execAslAbx s
  | .und1F => Sys2Proof.Machine.execUnd1F s
  | .jsr => Sys2Proof.Machine.execJsr s
  | .andIzx => Sys2Proof.Machine.execAndIzx s
  | .und22 => Sys2Proof.Machine.execUnd22 s
  | .und23 => Sys2Proof.Machine.execUnd23 s
  | .bitZp => Sys2Proof.Machine.execBitZp s
  | .andZp => Sys2Proof.Machine.execAndZp s
  | .rolZp => Sys2Proof.Machine.execRolZp s
  | .und27 => Sys2Proof.Machine.execUnd27 s
  | .plp => Sys2Proof.Machine.execPlp s
  | .andImm => Sys2Proof.Machine.execAndImm s
  | .rolAcc => Sys2Proof.Machine.execRolAcc s
  | .und2B => Sys2Proof.Machine.execUnd2B s
  | .bitAbs => Sys2Proof.Machine.execBitAbs s
  | .andAbs => Sys2Proof.Machine.execAndAbs s
  | .rolAbs => Sys2Proof.Machine.execRolAbs s
  | .und2F => Sys2Proof.Machine.execUnd2F s
  | .bmi => Sys2Proof.Machine.execBmi s
  | .andIzy => Sys2Proof.Machine.execAndIzy s
  | .und32 => Sys2Proof.Machine.execUnd32 s
  | .und33 => Sys2Proof.Machine.execUnd33 s
  | .und34 => Sys2Proof.Machine.execUnd34 s
  | .andZpx => Sys2Proof.Machine.execAndZpx s
  | .rolZpx => Sys2Proof.Machine.execRolZpx s
  | .und37 => Sys2Proof.Machine.execUnd37 s
  | .sec => Sys2Proof.Machine.execSec s
  | .andAby => Sys2Proof.Machine.execAndAby s
  | .und3A => Sys2Proof.Machine.execUnd3A s
  | .und3B => Sys2Proof.Machine.execUnd3B s
  | .und3C => Sys2Proof.Machine.execUnd3C s
  | .andAbx => Sys2Proof.Machine.execAndAbx s
  | .rolAbx => Sys2Proof.Machine.execRolAbx s
  | .und3F => Sys2Proof.Machine.execUnd3F s
  | .rti => Sys2Proof.Machine.execRti s
  | .eorIzx => Sys2Proof.Machine.execEorIzx s
  | .und42 => Sys2Proof.Machine.execUnd42 s
  | .und43 => Sys2Proof.Machine.execUnd43 s
  | .und44 => Sys2Proof.Machine.execUnd44 s
  | .eorZp => Sys2Proof.Machine.execEorZp s
  | .lsrZp => Sys2Proof.Machine.execLsrZp s
  | .und47 => Sys2Proof.Machine.execUnd47 s
  | .pha => Sys2Proof.Machine.execPha s
  | .eorImm => Sys2Proof.Machine.execEorImm s
  | .lsrAcc => Sys2Proof.Machine.execLsrAcc s
  | .und4B => Sys2Proof.Machine.execUnd4B s
  | .jmpAbs => Sys2Proof.Machine.execJmpAbs s
  | .eorAbs => Sys2Proof.Machine.execEorAbs s
  | .lsrAbs => Sys2Proof.Machine.execLsrAbs s
  | .und4F => Sys2Proof.Machine.execUnd4F s
  | .bvc => Sys2Proof.Machine.execBvc s
  | .eorIzy => Sys2Proof.Machine.execEorIzy s
  | .und52 => Sys2Proof.Machine.execUnd52 s
  | .und53 => Sys2Proof.Machine.execUnd53 s
  | .und54 => Sys2Proof.Machine.execUnd54 s
  | .eorZpx => Sys2Proof.Machine.execEorZpx s
  | .lsrZpx => Sys2Proof.Machine.execLsrZpx s
  | .und57 => Sys2Proof.Machine.execUnd57 s
  | .cli => Sys2Proof.Machine.execCli s
  | .eorAby => Sys2Proof.Machine.execEorAby s
  | .und5A => Sys2Proof.Machine.execUnd5A s
  | .und5B => Sys2Proof.Machine.execUnd5B s
  | .und5C => Sys2Proof.Machine.execUnd5C s
  | .eorAbx => Sys2Proof.Machine.execEorAbx s
  | .lsrAbx => Sys2Proof.Machine.execLsrAbx s
  | .und5F => Sys2Proof.Machine.execUnd5F s
  | .rts => Sys2Proof.Machine.execRts s
  | .adcIzx => Sys2Proof.Machine.execAdcIzx s
  | .und62 => Sys2Proof.Machine.execUnd62 s
  | .und63 => Sys2Proof.Machine.execUnd63 s
  | .und64 => Sys2Proof.Machine.execUnd64 s
  | .adcZp => Sys2Proof.Machine.execAdcZp s
  | .rorZp => Sys2Proof.Machine.execRorZp s
  | .und67 => Sys2Proof.Machine.execUnd67 s
  | .pla => Sys2Proof.Machine.execPla s
  | .adcImm => Sys2Proof.Machine.execAdcImm s
  | .rorAcc => Sys2Proof.Machine.execRorAcc s
  | .und6B => Sys2Proof.Machine.execUnd6B s
  | .jmpInd => Sys2Proof.Machine.execJmpInd s
  | .adcAbs => Sys2Proof.Machine.execAdcAbs s
  | .rorAbs => Sys2Proof.Machine.execRorAbs s
  | .und6F => Sys2Proof.Machine.execUnd6F s
  | .bvs => Sys2Proof.Machine.execBvs s
  | .adcIzy => Sys2Proof.Machine.execAdcIzy s
  | .und72 => Sys2Proof.Machine.execUnd72 s
  | .und73 => Sys2Proof.Machine.execUnd73 s
  | .und74 => Sys2Proof.Machine.execUnd74 s
  | .adcZpx => Sys2Proof.Machine.execAdcZpx s
  | .rorZpx => Sys2Proof.Machine.execRorZpx s
  | .und77 => Sys2Proof.Machine.execUnd77 s
  | .sei => Sys2Proof.Machine.execSei s
  | .adcAby => Sys2Proof.Machine.execAdcAby s
  | .und7A => Sys2Proof.Machine.execUnd7A s
  | .und7B => Sys2Proof.Machine.execUnd7B s
  | .und7C => Sys2Proof.Machine.execUnd7C s
  | .adcAbx => Sys2Proof.Machine.execAdcAbx s
  | .rorAbx => Sys2Proof.Machine.execRorAbx s
  | .und7F => Sys2Proof.Machine.execUnd7F s
  | .und80 => Sys2Proof.Machine.execUnd80 s
  | .staIzx => Sys2Proof.Machine.execStaIzx s
  | .und82 => Sys2Proof.Machine.execUnd82 s
  | .und83 => Sys2Proof.Machine.execUnd83 s
  | .styZp => Sys2Proof.Machine.execStyZp s
  | .staZp => Sys2Proof.Machine.execStaZp s
  | .stxZp => Sys2Proof.Machine.execStxZp s
  | .und87 => Sys2Proof.Machine.execUnd87 s
  | .dey => Sys2Proof.Machine.execDey s
  | .und89 => Sys2Proof.Machine.execUnd89 s
  | .txa => Sys2Proof.Machine.execTxa s
  | .und8B => Sys2Proof.Machine.execUnd8B s
  | .styAbs => Sys2Proof.Machine.execStyAbs s
  | .staAbs => Sys2Proof.Machine.execStaAbs s
  | .stxAbs => Sys2Proof.Machine.execStxAbs s
  | .und8F => Sys2Proof.Machine.execUnd8F s
  | .bcc => Sys2Proof.Machine.execBcc s
  | .staIzy => Sys2Proof.Machine.execStaIzy s
  | .und92 => Sys2Proof.Machine.execUnd92 s
  | .und93 => Sys2Proof.Machine.execUnd93 s
  | .styZpx => Sys2Proof.Machine.execStyZpx s
  | .staZpx => Sys2Proof.Machine.execStaZpx s
  | .stxZpy => Sys2Proof.Machine.execStxZpy s
  | .und97 => Sys2Proof.Machine.execUnd97 s
  | .tya => Sys2Proof.Machine.execTya s
  | .staAby => Sys2Proof.Machine.execStaAby s
  | .txs => Sys2Proof.Machine.execTxs s
  | .und9B => Sys2Proof.Machine.execUnd9B s
  | .und9C => Sys2Proof.Machine.execUnd9C s
  | .staAbx => Sys2Proof.Machine.execStaAbx s
  | .und9E => Sys2Proof.Machine.execUnd9E s
  | .und9F => Sys2Proof.Machine.execUnd9F s
  | .ldyImm => Sys2Proof.Machine.execLdyImm s
  | .ldaIzx => Sys2Proof.Machine.execLdaIzx s
  | .ldxImm => Sys2Proof.Machine.execLdxImm s
  | .undA3 => Sys2Proof.Machine.execUndA3 s
  | .ldyZp => Sys2Proof.Machine.execLdyZp s
  | .ldaZp => Sys2Proof.Machine.execLdaZp s
  | .ldxZp => Sys2Proof.Machine.execLdxZp s
  | .undA7 => Sys2Proof.Machine.execUndA7 s
  | .tay => Sys2Proof.Machine.execTay s
  | .ldaImm => Sys2Proof.Machine.execLdaImm s
  | .tax => Sys2Proof.Machine.execTax s
  | .undAB => Sys2Proof.Machine.execUndAB s
  | .ldyAbs => Sys2Proof.Machine.execLdyAbs s
  | .ldaAbs => Sys2Proof.Machine.execLdaAbs s
  | .ldxAbs => Sys2Proof.Machine.execLdxAbs s
  | .undAF => Sys2Proof.Machine.execUndAF s
  | .bcs => Sys2Proof.Machine.execBcs s
  | .ldaIzy => Sys2Proof.Machine.execLdaIzy s
  | .undB2 => Sys2Proof.Machine.execUndB2 s
  | .undB3 => Sys2Proof.Machine.execUndB3 s
  | .ldyZpx => Sys2Proof.Machine.execLdyZpx s
  | .ldaZpx => Sys2Proof.Machine.execLdaZpx s
  | .ldxZpy => Sys2Proof.Machine.execLdxZpy s
  | .undB7 => Sys2Proof.Machine.execUndB7 s
  | .clv => Sys2Proof.Machine.execClv s
  | .ldaAby => Sys2Proof.Machine.execLdaAby s
  | .tsx => Sys2Proof.Machine.execTsx s
  | .undBB => Sys2Proof.Machine.execUndBB s
  | .ldyAbx => Sys2Proof.Machine.execLdyAbx s
  | .ldaAbx => Sys2Proof.Machine.execLdaAbx s
  | .ldxAby => Sys2Proof.Machine.execLdxAby s
  | .undBF => Sys2Proof.Machine.execUndBF s
  | .cpyImm => Sys2Proof.Machine.execCpyImm s
  | .cmpIzx => Sys2Proof.Machine.execCmpIzx s
  | .undC2 => Sys2Proof.Machine.execUndC2 s
  | .undC3 => Sys2Proof.Machine.execUndC3 s
  | .cpyZp => Sys2Proof.Machine.execCpyZp s
  | .cmpZp => Sys2Proof.Machine.execCmpZp s
  | .decZp => Sys2Proof.Machine.execDecZp s
  | .undC7 => Sys2Proof.Machine.execUndC7 s
  | .iny => Sys2Proof.Machine.execIny s
  | .cmpImm => Sys2Proof.Machine.execCmpImm s
  | .dex => Sys2Proof.Machine.execDex s
  | .undCB => Sys2Proof.Machine.execUndCB s
  | .cpyAbs => Sys2Proof.Machine.execCpyAbs s
  | .cmpAbs => Sys2Proof.Machine.execCmpAbs s
  | .decAbs => Sys2Proof.Machine.execDecAbs s
  | .undCF => Sys2Proof.Machine.execUndCF s
  | .bne => Sys2Proof.Machine.execBne s
  | .cmpIzy => Sys2Proof.Machine.execCmpIzy s
  | .undD2 => Sys2Proof.Machine.execUndD2 s
  | .undD3 => Sys2Proof.Machine.execUndD3 s
  | .undD4 => Sys2Proof.Machine.execUndD4 s
  | .cmpZpx => Sys2Proof.Machine.execCmpZpx s
  | .decZpx => Sys2Proof.Machine.execDecZpx s
  | .undD7 => Sys2Proof.Machine.execUndD7 s
  | .cld => Sys2Proof.Machine.execCld s
  | .cmpAby => Sys2Proof.Machine.execCmpAby s
  | .undDA => Sys2Proof.Machine.execUndDA s
  | .undDB => Sys2Proof.Machine.execUndDB s
  | .undDC => Sys2Proof.Machine.execUndDC s
  | .cmpAbx => Sys2Proof.Machine.execCmpAbx s
  | .decAbx => Sys2Proof.Machine.execDecAbx s
  | .undDF => Sys2Proof.Machine.execUndDF s
  | .cpxImm => Sys2Proof.Machine.execCpxImm s
  | .sbcIzx => Sys2Proof.Machine.execSbcIzx s
  | .undE2 => Sys2Proof.Machine.execUndE2 s
  | .undE3 => Sys2Proof.Machine.execUndE3 s
  | .cpxZp => Sys2Proof.Machine.execCpxZp s
  | .sbcZp => Sys2Proof.Machine.execSbcZp s
  | .incZp => Sys2Proof.Machine.execIncZp s
  | .undE7 => Sys2Proof.Machine.execUndE7 s
  | .inx => Sys2Proof.Machine.execInx s
  | .sbcImm => Sys2Proof.Machine.execSbcImm s
  | .nop => Sys2Proof.Machine.execNop s
  | .undEB => Sys2Proof.Machine.execUndEB s
  | .cpxAbs => Sys2Proof.Machine.execCpxAbs s
  | .sbcAbs => Sys2Proof.Machine.execSbcAbs s
  | .incAbs => Sys2Proof.Machine.execIncAbs s
  | .undEF => Sys2Proof.Machine.execUndEF s
  | .beq => Sys2Proof.Machine.execBeq s
  | .sbcIzy => Sys2Proof.Machine.execSbcIzy s
  | .undF2 => Sys2Proof.Machine.execUndF2 s
  | .undF3 => Sys2Proof.Machine.execUndF3 s
  | .undF4 => Sys2Proof.Machine.execUndF4 s
  | .sbcZpx => Sys2Proof.Machine.execSbcZpx s
  | .incZpx => Sys2Proof.Machine.execIncZpx s
  | .undF7 => Sys2Proof.Machine.execUndF7 s
  | .sed => Sys2Proof.Machine.execSed s
  | .sbcAby => Sys2Proof.Machine.execSbcAby s
  | .undFA => Sys2Proof.Machine.execUndFA s
  | .undFB => Sys2Proof.Machine.execUndFB s
  | .undFC => Sys2Proof.Machine.execUndFC s
  | .sbcAbx => Sys2Proof.Machine.execSbcAbx s
  | .incAbx => Sys2Proof.Machine.execIncAbx s
  | .undFF => Sys2Proof.Machine.execUndFF s

end Sys2Proof.Machine
end

