-- ==== Sys2Proof/Machine/Step.lean ====
section
/-! DEFINITION. Sys2Proof/Machine/Step.lean: one step: an instruction, an interrupt sequence, the rest of
one of these, or a tick of a halted core (notes/assumptions/1.md). The one-tick step of rule R13 is `tickOn` of
Machine/Run.lean. -/

namespace Sys2Proof.Machine

/-- A step at an instruction boundary (rule R420): the interrupt that the poll takes, or the instruction
whose opcode stands at `PC`. -/
def stepBoundary (s : State) : Result :=
  match pollAt s.cfg.pollPoint (coreView s).cpu with
  | some k => .next (takeInterrupt k s)
  | none => exec (decodeOpcode (fetchedByte s)) s

/-- A step of a machine whose configuration is well formed. -/
def stepRun (s : State) : Result :=
  match s.cpu.phase with
  | .fetch => stepBoundary s
  | .executeCycle n => finishInstruction n s
  | .interruptSequence k => resumeSequence k s
  | .halted => runHalted s

/-- One step. An ill-formed configuration is refused (rules R63, R302). -/
def step (s : State) : Host.Outcome State Fault Refusal :=
  if s.cfg.wellFormed then stepRun s else .refused .illFormedConfiguration

/-- The machine with an instruction of the opcode table where the next step fetches it. -/
def State.withFetchWord (s : State) (nbits w : Nat) : State :=
  placeBytes ((fetchAddresses s.cpu.pc).zip (tableBytes nbits w)) s.readyToFetch

end Sys2Proof.Machine
end

