-- ==== Sys2Proof/Safety.lean ====
section
/-! DEFINITION. Sys2Proof/Safety.lean: the terms in which the statements speak of a run: the core's bus trace, a
memory that answers a trace, a whole instruction, the invariant of every step. -/

namespace Sys2Proof.Machine

/-! ## The bus trace -/

/-- A read transaction of the core that returned `b` (rule R60). -/
def rd (a : Addr) (b : Byte) : Transaction :=
  ⟨a, false, b, .core⟩

/-- A write transaction of the core (rule R60). -/
def wr (a : Addr) (b : Byte) : Transaction :=
  ⟨a, true, b, .core⟩

/-- The core's transactions, in the order in which they were made (rule R78). -/
def coreTrace (s : State) : List Transaction :=
  (s.bus.filter fun t => t.origin == .core).reverse

/-- What a write transaction leaves in memory: only a writable region stores (rule R64). -/
def storeIn (c : Config) (m : Memory) (a : Addr) (v : Byte) : Memory :=
  if ramOwned c a then Memory.write m a.toNat v else m

/-- The byte a read transaction must return wherever a memory region or nobody owns the address (rules R64, R65,
R69); what a chip returns is the chip's business. -/
def answers (c : Config) (m : Memory) (bs : List Bank) (a : Addr) (b : Byte) : Prop :=
  (∀ x, regionByte c m bs a = some x → b = x) ∧ (mapEntry c a = none → b = c.openBus)

/-- The transactions, one after the other, read what memory holds at that moment and leave memory as `m'` and
the banked regions as `bs'` (rule R78). -/
def replays (c : Config) : Memory → List Bank → List Transaction → Memory → List Bank → Prop
  | m, bs, [], m', bs' => m' = m ∧ bs' = bs
  | m, bs, t :: ts, m', bs' =>
    if t.write then replays c (storeIn c m t.addr t.data) (storeBanks c bs t.addr t.data) ts m' bs'
    else answers c m bs t.addr t.data ∧ replays c m bs ts m' bs'

/-! ## A whole instruction or sequence -/

/-- The number of the tick in which the core acts next, after tick `n` (rule R71): `n + 1` with the divider 1. -/
def nextTurn (c : Config) (n : Nat) : Nat :=
  n + coreIdle c n + 1

/-- The number of the tick in which the core acts for the `k`-th time after tick `n`: `n + k` with the divider 1. -/
def afterTurns (c : Config) : (k n : Nat) → Nat
  | 0, n => n
  | k + 1, n => afterTurns c k (nextTurn c n)

/-- From `s` to `t` the core makes exactly the transactions `tr`, one in each tick in which it acts (rules R62,
R71, R132, R160), that is in each tick with the divider 1 (notes/assumptions/24.md for others); memory and the
banked regions change by its writes only, the configuration not at all. -/
def Makes (s t : State) (tr : List Transaction) : Prop :=
  coreTrace t = coreTrace s ++ tr ∧ replays s.cfg s.mem s.banks tr t.mem t.banks ∧
    t.sched.tickCount = afterTurns s.cfg tr.length s.sched.tickCount ∧ t.cfg = s.cfg

/-- The core runs a whole instruction from the boundary `s` to the boundary `t`; the illegal-instruction condition
and the kind of the last sequence stay as they were. -/
def Runs (s t : State) (tr : List Transaction) : Prop :=
  Makes s t tr ∧ t.cpu.phase = .fetch ∧ t.cpu.illegal = s.cpu.illegal ∧ t.cpu.seqKind = s.cpu.seqKind

/-- Every address reads as before, and every banked region is as before. -/
def memorySame (s t : State) : Prop :=
  (∀ a, t.peek a = s.peek a) ∧ t.banks = s.banks

/-- Every address outside `ws` reads as before; each address of `ws` reads as the byte beside it if a writable
region owns it, and as before if none does (rules R64, R65); the banked regions are as the writes of `ws`, in
order, leave them (rule R69). -/
def memoryWritten (s t : State) (ws : List (Addr × Byte)) : Prop :=
  (∀ a, a ∉ ws.map (fun w => w.1) → t.peek a = s.peek a) ∧
    (∀ w ∈ ws, t.peek w.1 = if ramOwned s.cfg w.1 then w.2 else s.peek w.1) ∧
    t.banks = ws.foldl (fun bs w => storeBanks s.cfg bs w.1 w.2) s.banks

/-- The core stands at an instruction boundary, or is halted (rules R420, R445). -/
def atBoundary (s : State) : Prop :=
  s.cpu.phase = .fetch ∨ s.cpu.phase = .halted

/-- `n` ticks, to the first that does not answer a next state. -/
def ticks : Nat → State → Result
  | 0, s => .next s
  | n + 1, s =>
    match tick s with
    | .next t => ticks n t
    | .fault e => .fault e
    | .refused e => .refused e

/-- The ticks of rule R13 in a row: one configuration, and for each tick what the outside does at its boundary. -/
def ticksOn (c : Config) : List TickInput → State → Result
  | [], s => .next s
  | i :: is, s =>
    match tickOn c i s with
    | .next t => ticksOn c is t
    | .fault e => .fault e
    | .refused e => .refused e

/-- The state with another script (notes/assumptions/3.md). -/
def State.withInput (s : State) (l : List TickInput) : State :=
  { s with input := l }

/-- What a step answers, with another script. -/
def answerWithInput (r : Result) (l : List TickInput) : Result :=
  match r with
  | .next t => .next (t.withInput l)
  | .fault e => .fault e
  | .refused e => .refused e

/-- What the outside does at `n` boundaries by a script; after its end, nothing (notes/assumptions/3.md). -/
def scriptInputs : Nat → List TickInput → List TickInput
  | 0, _ => []
  | n + 1, l => l.headD ⟨[], [], []⟩ :: scriptInputs n l.tail

/-- The decimal value of a byte of two digits (rule R212). -/
def bcdValue (b : Byte) : Nat :=
  b.toNat / 16 * 10 + b.toNat % 16

/-- Both digits of a byte are decimal (rule R212). -/
def validBcd (b : Byte) : Bool :=
  decide (b.toNat / 16 < 10) && decide (b.toNat % 16 < 10)

/-- A signed sum that a byte cannot hold (rule R211). -/
def outsideSigned (n : Int) : Bool :=
  decide (n < -128) || decide (127 < n)

/-- `n` updates of the timing generator (rule R314). -/
def vtgTicks (c : VtgCfg) : Nat → Vtg → Vtg
  | 0, g => g
  | n + 1, g => vtgTicks c n (vtgTick c g)

/-- `n` updates of the floppy controller with its drives (rule R394). -/
def fdcTicks (c : Config) : Nat → List (Option Image) → Fdc → Fdc × List (Option Image)
  | 0, drives, f => (f, drives)
  | n + 1, drives, f => fdcTicks c n (fdcTick c drives f).2 (fdcTick c drives f).1

/-! ## The invariant of every step -/

/-- The timing generator's counters and addresses are in their ranges, and its programmed fields hold no more than
their bits, now and after the pending writes (rules R310, R312, R322, R325). -/
def vtgInv (c : VtgCfg) (g : Vtg) : Prop :=
  g.charPhase < c.ticksPerChar ∧ g.hcount < max 1 g.reg.hTotal ∧ g.ma < 2 ^ c.maBits ∧ g.rowBase < 2 ^ c.maBits ∧
    c.widths.fits g.reg = true ∧ ∀ u ∈ g.pending, u.mask < 2 ^ vtgWidth c u.field

/-- The palette has a colour of `RGB_BITS` bits for every logical colour (rule R333). -/
def mixerInv (c : MixerCfg) (m : Mixer) : Prop :=
  m.regs.fits c = true

/-- Every queue is within its bound (rule R359). -/
def queuesInv (c : Config) (chips : List IfChip) : Prop :=
  ∀ chip ∈ chips, chip.queue.length ≤ c.eventQueueDepth

/-- Every bank of every banked region is in the canonical form of a memory. -/
def banksInv (bs : List Bank) : Prop :=
  ∀ b ∈ bs, ∀ m ∈ b.content, Memory.wf m = true

/-- The command record is there exactly while the controller is busy, the buffer holds one sector, and the stored
CRC has `CRC_BITS` bits (rules R372, R373). -/
def fdcInv (c : Config) (f : Fdc) : Prop :=
  f.cmd.isSome = fdcBusy f.state ∧ f.buffer.length = c.disk.bytesPerSector ∧ f.storedCrc < 2 ^ c.disk.crcBits

/-- Every drive holds no image, or one of its geometry with CRCs of `CRC_BITS` bits (rule R400). -/
def drivesInv (c : DiskCfg) (drives : List (Option Image)) : Prop :=
  drives.length = c.geometry.length ∧
    ∀ p ∈ drives.zip c.geometry, ∀ i ∈ p.1, c.fits p.2 i = true

/-- The invariant that every step keeps: memory is in its canonical form; there are as many Interface Chips as
the configuration describes, with bounded queues; the timing generator, the Mixer's registers, the controller and
the drives are in their ranges; the line bitset is what the chips and the environment drive (rule R72). -/
def StepInv (s : State) : Prop :=
  Memory.wf s.mem = true ∧ banksInv s.banks ∧ s.ifChips.length = s.cfg.ifChips.length ∧ queuesInv s.cfg s.ifChips ∧
    vtgInv s.cfg.vtg s.vtg ∧ mixerInv s.cfg.mixer s.mixer ∧ fdcInv s.cfg s.fdc ∧ drivesInv s.cfg.disk s.drives ∧
    s.sched.linesOut = drivenLines s

end Sys2Proof.Machine
end

