-- ==== Sys2Proof/Laws/State.lean ====
section
/-! SUPPORT. Sys2Proof/Laws/State.lean: what each named update of the state leaves in each field it does not
write, and the values of those it does. -/

namespace Sys2Proof.Machine

/-! ## `logBus` -/

@[simp] theorem logBus_cfg (s : State) (t : Transaction) : (s.logBus t).cfg = s.cfg := rfl
@[simp] theorem logBus_cpu (s : State) (t : Transaction) : (s.logBus t).cpu = s.cpu := rfl
@[simp] theorem logBus_sched (s : State) (t : Transaction) : (s.logBus t).sched = s.sched := rfl
@[simp] theorem logBus_mem (s : State) (t : Transaction) : (s.logBus t).mem = s.mem := rfl
@[simp] theorem logBus_banks (s : State) (t : Transaction) : (s.logBus t).banks = s.banks := rfl
@[simp] theorem logBus_vtg (s : State) (t : Transaction) : (s.logBus t).vtg = s.vtg := rfl
@[simp] theorem logBus_mixer (s : State) (t : Transaction) : (s.logBus t).mixer = s.mixer := rfl
@[simp] theorem logBus_ifChips (s : State) (t : Transaction) : (s.logBus t).ifChips = s.ifChips := rfl
@[simp] theorem logBus_fdc (s : State) (t : Transaction) : (s.logBus t).fdc = s.fdc := rfl
@[simp] theorem logBus_drives (s : State) (t : Transaction) : (s.logBus t).drives = s.drives := rfl
@[simp] theorem logBus_input (s : State) (t : Transaction) : (s.logBus t).input = s.input := rfl
@[simp] theorem logBus_output (s : State) (t : Transaction) : (s.logBus t).output = s.output := rfl

/-! ## `countUnmapped` -/

@[simp] theorem countUnmapped_cfg (s : State) : s.countUnmapped.cfg = s.cfg := rfl
@[simp] theorem countUnmapped_cpu (s : State) : s.countUnmapped.cpu = s.cpu := rfl
@[simp] theorem countUnmapped_mem (s : State) : s.countUnmapped.mem = s.mem := rfl
@[simp] theorem countUnmapped_banks (s : State) : s.countUnmapped.banks = s.banks := rfl
@[simp] theorem countUnmapped_vtg (s : State) : s.countUnmapped.vtg = s.vtg := rfl
@[simp] theorem countUnmapped_mixer (s : State) : s.countUnmapped.mixer = s.mixer := rfl
@[simp] theorem countUnmapped_ifChips (s : State) : s.countUnmapped.ifChips = s.ifChips := rfl
@[simp] theorem countUnmapped_fdc (s : State) : s.countUnmapped.fdc = s.fdc := rfl
@[simp] theorem countUnmapped_drives (s : State) : s.countUnmapped.drives = s.drives := rfl
@[simp] theorem countUnmapped_input (s : State) : s.countUnmapped.input = s.input := rfl
@[simp] theorem countUnmapped_output (s : State) : s.countUnmapped.output = s.output := rfl
@[simp] theorem countUnmapped_bus (s : State) : s.countUnmapped.bus = s.bus := rfl

/-! ## `dropInput` -/

@[simp] theorem dropInput_cfg (s : State) : s.dropInput.cfg = s.cfg := rfl
@[simp] theorem dropInput_cpu (s : State) : s.dropInput.cpu = s.cpu := rfl
@[simp] theorem dropInput_sched (s : State) : s.dropInput.sched = s.sched := rfl
@[simp] theorem dropInput_mem (s : State) : s.dropInput.mem = s.mem := rfl
@[simp] theorem dropInput_banks (s : State) : s.dropInput.banks = s.banks := rfl
@[simp] theorem dropInput_vtg (s : State) : s.dropInput.vtg = s.vtg := rfl
@[simp] theorem dropInput_mixer (s : State) : s.dropInput.mixer = s.mixer := rfl
@[simp] theorem dropInput_ifChips (s : State) : s.dropInput.ifChips = s.ifChips := rfl
@[simp] theorem dropInput_fdc (s : State) : s.dropInput.fdc = s.fdc := rfl
@[simp] theorem dropInput_drives (s : State) : s.dropInput.drives = s.drives := rfl
@[simp] theorem dropInput_output (s : State) : s.dropInput.output = s.output := rfl
@[simp] theorem dropInput_bus (s : State) : s.dropInput.bus = s.bus := rfl

/-! ## `boundaryLines` -/

@[simp] theorem boundaryLines_cfg (lines : List Line) (s : State) : (boundaryLines lines s).cfg = s.cfg := rfl
@[simp] theorem boundaryLines_mem (lines : List Line) (s : State) : (boundaryLines lines s).mem = s.mem := rfl
@[simp] theorem boundaryLines_banks (lines : List Line) (s : State) : (boundaryLines lines s).banks = s.banks := rfl
@[simp] theorem boundaryLines_vtg (lines : List Line) (s : State) : (boundaryLines lines s).vtg = s.vtg := rfl
@[simp] theorem boundaryLines_mixer (lines : List Line) (s : State) : (boundaryLines lines s).mixer = s.mixer := rfl
@[simp] theorem boundaryLines_ifChips (lines : List Line) (s : State) : (boundaryLines lines s).ifChips = s.ifChips := rfl
@[simp] theorem boundaryLines_fdc (lines : List Line) (s : State) : (boundaryLines lines s).fdc = s.fdc := rfl
@[simp] theorem boundaryLines_drives (lines : List Line) (s : State) : (boundaryLines lines s).drives = s.drives := rfl
@[simp] theorem boundaryLines_input (lines : List Line) (s : State) : (boundaryLines lines s).input = s.input := rfl
@[simp] theorem boundaryLines_output (lines : List Line) (s : State) : (boundaryLines lines s).output = s.output := rfl
@[simp] theorem boundaryLines_bus (lines : List Line) (s : State) : (boundaryLines lines s).bus = s.bus := rfl

/-! ## `deliverEvents` -/

@[simp] theorem deliverEvents_cfg (s : State) : (deliverEvents s).cfg = s.cfg := rfl
@[simp] theorem deliverEvents_cpu (s : State) : (deliverEvents s).cpu = s.cpu := rfl
@[simp] theorem deliverEvents_sched (s : State) : (deliverEvents s).sched = s.sched := rfl
@[simp] theorem deliverEvents_mem (s : State) : (deliverEvents s).mem = s.mem := rfl
@[simp] theorem deliverEvents_banks (s : State) : (deliverEvents s).banks = s.banks := rfl
@[simp] theorem deliverEvents_vtg (s : State) : (deliverEvents s).vtg = s.vtg := rfl
@[simp] theorem deliverEvents_mixer (s : State) : (deliverEvents s).mixer = s.mixer := rfl
@[simp] theorem deliverEvents_fdc (s : State) : (deliverEvents s).fdc = s.fdc := rfl
@[simp] theorem deliverEvents_drives (s : State) : (deliverEvents s).drives = s.drives := rfl
@[simp] theorem deliverEvents_input (s : State) : (deliverEvents s).input = s.input := rfl
@[simp] theorem deliverEvents_output (s : State) : (deliverEvents s).output = s.output := rfl
@[simp] theorem deliverEvents_bus (s : State) : (deliverEvents s).bus = s.bus := rfl

/-! ## `changeDrives` -/

@[simp] theorem changeDrives_cfg (es : List DriveEvent) (s : State) : (changeDrives es s).cfg = s.cfg := rfl
@[simp] theorem changeDrives_cpu (es : List DriveEvent) (s : State) : (changeDrives es s).cpu = s.cpu := rfl
@[simp] theorem changeDrives_sched (es : List DriveEvent) (s : State) : (changeDrives es s).sched = s.sched := rfl
@[simp] theorem changeDrives_mem (es : List DriveEvent) (s : State) : (changeDrives es s).mem = s.mem := rfl
@[simp] theorem changeDrives_banks (es : List DriveEvent) (s : State) : (changeDrives es s).banks = s.banks := rfl
@[simp] theorem changeDrives_vtg (es : List DriveEvent) (s : State) : (changeDrives es s).vtg = s.vtg := rfl
@[simp] theorem changeDrives_mixer (es : List DriveEvent) (s : State) : (changeDrives es s).mixer = s.mixer := rfl
@[simp] theorem changeDrives_ifChips (es : List DriveEvent) (s : State) : (changeDrives es s).ifChips = s.ifChips := rfl
@[simp] theorem changeDrives_fdc (es : List DriveEvent) (s : State) : (changeDrives es s).fdc = s.fdc := rfl
@[simp] theorem changeDrives_input (es : List DriveEvent) (s : State) : (changeDrives es s).input = s.input := rfl
@[simp] theorem changeDrives_output (es : List DriveEvent) (s : State) : (changeDrives es s).output = s.output := rfl
@[simp] theorem changeDrives_bus (es : List DriveEvent) (s : State) : (changeDrives es s).bus = s.bus := rfl

/-! ## `vtgUpdate` -/

@[simp] theorem vtgUpdate_cfg (s : State) : (vtgUpdate s).cfg = s.cfg := rfl
@[simp] theorem vtgUpdate_cpu (s : State) : (vtgUpdate s).cpu = s.cpu := rfl
@[simp] theorem vtgUpdate_sched (s : State) : (vtgUpdate s).sched = s.sched := rfl
@[simp] theorem vtgUpdate_mem (s : State) : (vtgUpdate s).mem = s.mem := rfl
@[simp] theorem vtgUpdate_banks (s : State) : (vtgUpdate s).banks = s.banks := rfl
@[simp] theorem vtgUpdate_mixer (s : State) : (vtgUpdate s).mixer = s.mixer := rfl
@[simp] theorem vtgUpdate_ifChips (s : State) : (vtgUpdate s).ifChips = s.ifChips := rfl
@[simp] theorem vtgUpdate_fdc (s : State) : (vtgUpdate s).fdc = s.fdc := rfl
@[simp] theorem vtgUpdate_drives (s : State) : (vtgUpdate s).drives = s.drives := rfl
@[simp] theorem vtgUpdate_input (s : State) : (vtgUpdate s).input = s.input := rfl
@[simp] theorem vtgUpdate_output (s : State) : (vtgUpdate s).output = s.output := rfl
@[simp] theorem vtgUpdate_bus (s : State) : (vtgUpdate s).bus = s.bus := rfl

/-! ## `vtgIdle` -/

@[simp] theorem vtgIdle_cfg (s : State) : (vtgIdle s).cfg = s.cfg := rfl
@[simp] theorem vtgIdle_cpu (s : State) : (vtgIdle s).cpu = s.cpu := rfl
@[simp] theorem vtgIdle_sched (s : State) : (vtgIdle s).sched = s.sched := rfl
@[simp] theorem vtgIdle_mem (s : State) : (vtgIdle s).mem = s.mem := rfl
@[simp] theorem vtgIdle_banks (s : State) : (vtgIdle s).banks = s.banks := rfl
@[simp] theorem vtgIdle_mixer (s : State) : (vtgIdle s).mixer = s.mixer := rfl
@[simp] theorem vtgIdle_ifChips (s : State) : (vtgIdle s).ifChips = s.ifChips := rfl
@[simp] theorem vtgIdle_fdc (s : State) : (vtgIdle s).fdc = s.fdc := rfl
@[simp] theorem vtgIdle_drives (s : State) : (vtgIdle s).drives = s.drives := rfl
@[simp] theorem vtgIdle_input (s : State) : (vtgIdle s).input = s.input := rfl
@[simp] theorem vtgIdle_output (s : State) : (vtgIdle s).output = s.output := rfl
@[simp] theorem vtgIdle_bus (s : State) : (vtgIdle s).bus = s.bus := rfl

/-! ## `fdcUpdate` -/

@[simp] theorem fdcUpdate_cfg (s : State) : (fdcUpdate s).cfg = s.cfg := rfl
@[simp] theorem fdcUpdate_cpu (s : State) : (fdcUpdate s).cpu = s.cpu := rfl
@[simp] theorem fdcUpdate_sched (s : State) : (fdcUpdate s).sched = s.sched := rfl
@[simp] theorem fdcUpdate_mem (s : State) : (fdcUpdate s).mem = s.mem := rfl
@[simp] theorem fdcUpdate_banks (s : State) : (fdcUpdate s).banks = s.banks := rfl
@[simp] theorem fdcUpdate_vtg (s : State) : (fdcUpdate s).vtg = s.vtg := rfl
@[simp] theorem fdcUpdate_mixer (s : State) : (fdcUpdate s).mixer = s.mixer := rfl
@[simp] theorem fdcUpdate_ifChips (s : State) : (fdcUpdate s).ifChips = s.ifChips := rfl
@[simp] theorem fdcUpdate_input (s : State) : (fdcUpdate s).input = s.input := rfl
@[simp] theorem fdcUpdate_output (s : State) : (fdcUpdate s).output = s.output := rfl
@[simp] theorem fdcUpdate_bus (s : State) : (fdcUpdate s).bus = s.bus := rfl

/-! ## `driveLines` -/

@[simp] theorem driveLines_cfg (s : State) : (driveLines s).cfg = s.cfg := rfl
@[simp] theorem driveLines_cpu (s : State) : (driveLines s).cpu = s.cpu := rfl
@[simp] theorem driveLines_mem (s : State) : (driveLines s).mem = s.mem := rfl
@[simp] theorem driveLines_banks (s : State) : (driveLines s).banks = s.banks := rfl
@[simp] theorem driveLines_vtg (s : State) : (driveLines s).vtg = s.vtg := rfl
@[simp] theorem driveLines_mixer (s : State) : (driveLines s).mixer = s.mixer := rfl
@[simp] theorem driveLines_ifChips (s : State) : (driveLines s).ifChips = s.ifChips := rfl
@[simp] theorem driveLines_fdc (s : State) : (driveLines s).fdc = s.fdc := rfl
@[simp] theorem driveLines_drives (s : State) : (driveLines s).drives = s.drives := rfl
@[simp] theorem driveLines_input (s : State) : (driveLines s).input = s.input := rfl
@[simp] theorem driveLines_output (s : State) : (driveLines s).output = s.output := rfl
@[simp] theorem driveLines_bus (s : State) : (driveLines s).bus = s.bus := rfl

/-! ## `mixerTeletext` -/

@[simp] theorem mixerTeletext_cfg (s : State) : (mixerTeletext s).cfg = s.cfg := rfl
@[simp] theorem mixerTeletext_cpu (s : State) : (mixerTeletext s).cpu = s.cpu := rfl
@[simp] theorem mixerTeletext_sched (s : State) : (mixerTeletext s).sched = s.sched := rfl
@[simp] theorem mixerTeletext_mem (s : State) : (mixerTeletext s).mem = s.mem := rfl
@[simp] theorem mixerTeletext_banks (s : State) : (mixerTeletext s).banks = s.banks := rfl
@[simp] theorem mixerTeletext_vtg (s : State) : (mixerTeletext s).vtg = s.vtg := rfl
@[simp] theorem mixerTeletext_ifChips (s : State) : (mixerTeletext s).ifChips = s.ifChips := rfl
@[simp] theorem mixerTeletext_fdc (s : State) : (mixerTeletext s).fdc = s.fdc := rfl
@[simp] theorem mixerTeletext_drives (s : State) : (mixerTeletext s).drives = s.drives := rfl
@[simp] theorem mixerTeletext_input (s : State) : (mixerTeletext s).input = s.input := rfl
@[simp] theorem mixerTeletext_output (s : State) : (mixerTeletext s).output = s.output := rfl
@[simp] theorem mixerTeletext_bus (s : State) : (mixerTeletext s).bus = s.bus := rfl

/-! ## `mixerFetch` -/

@[simp] theorem mixerFetch_cfg (s : State) (a : Addr) : (mixerFetch s a).cfg = s.cfg := rfl
@[simp] theorem mixerFetch_cpu (s : State) (a : Addr) : (mixerFetch s a).cpu = s.cpu := rfl
@[simp] theorem mixerFetch_mem (s : State) (a : Addr) : (mixerFetch s a).mem = s.mem := rfl
@[simp] theorem mixerFetch_banks (s : State) (a : Addr) : (mixerFetch s a).banks = s.banks := rfl
@[simp] theorem mixerFetch_vtg (s : State) (a : Addr) : (mixerFetch s a).vtg = s.vtg := rfl
@[simp] theorem mixerFetch_mixer (s : State) (a : Addr) : (mixerFetch s a).mixer = s.mixer := rfl
@[simp] theorem mixerFetch_ifChips (s : State) (a : Addr) : (mixerFetch s a).ifChips = s.ifChips := rfl
@[simp] theorem mixerFetch_fdc (s : State) (a : Addr) : (mixerFetch s a).fdc = s.fdc := rfl
@[simp] theorem mixerFetch_drives (s : State) (a : Addr) : (mixerFetch s a).drives = s.drives := rfl
@[simp] theorem mixerFetch_input (s : State) (a : Addr) : (mixerFetch s a).input = s.input := rfl
@[simp] theorem mixerFetch_output (s : State) (a : Addr) : (mixerFetch s a).output = s.output := rfl

/-! ## `mixerStep` -/

@[simp] theorem mixerStep_cfg (s : State) (a : Addr) : (mixerStep s a).cfg = s.cfg := rfl
@[simp] theorem mixerStep_cpu (s : State) (a : Addr) : (mixerStep s a).cpu = s.cpu := rfl
@[simp] theorem mixerStep_mem (s : State) (a : Addr) : (mixerStep s a).mem = s.mem := rfl
@[simp] theorem mixerStep_banks (s : State) (a : Addr) : (mixerStep s a).banks = s.banks := rfl
@[simp] theorem mixerStep_vtg (s : State) (a : Addr) : (mixerStep s a).vtg = s.vtg := rfl
@[simp] theorem mixerStep_ifChips (s : State) (a : Addr) : (mixerStep s a).ifChips = s.ifChips := rfl
@[simp] theorem mixerStep_fdc (s : State) (a : Addr) : (mixerStep s a).fdc = s.fdc := rfl
@[simp] theorem mixerStep_drives (s : State) (a : Addr) : (mixerStep s a).drives = s.drives := rfl
@[simp] theorem mixerStep_input (s : State) (a : Addr) : (mixerStep s a).input = s.input := rfl
@[simp] theorem mixerStep_output (s : State) (a : Addr) : (mixerStep s a).output = s.output := rfl

@[simp] theorem logBus_bus (s : State) (t : Transaction) : (s.logBus t).bus = t :: s.bus := rfl
@[simp] theorem countUnmapped_unmapped (s : State) :
    s.countUnmapped.sched.unmappedCount = s.sched.unmappedCount + 1 := rfl
@[simp] theorem countUnmapped_tick (s : State) : s.countUnmapped.sched.tickCount = s.sched.tickCount := rfl
@[simp] theorem countUnmapped_linesOut (s : State) : s.countUnmapped.sched.linesOut = s.sched.linesOut := rfl
@[simp] theorem countUnmapped_envLines (s : State) : s.countUnmapped.sched.envLines = s.sched.envLines := rfl
@[simp] theorem dropInput_input (s : State) : s.dropInput.input = s.input.tail := rfl
@[simp] theorem boundaryLines_cpu (lines : List Line) (s : State) :
    (boundaryLines lines s).cpu = { s.cpu with pend := routeLines s.sched.linesOut s.cpu.pend } := rfl
@[simp] theorem boundaryLines_tick (lines : List Line) (s : State) :
    (boundaryLines lines s).sched.tickCount = s.sched.tickCount + 1 := rfl
@[simp] theorem boundaryLines_latched (lines : List Line) (s : State) :
    (boundaryLines lines s).sched.linesLatched = s.sched.linesOut := rfl
@[simp] theorem boundaryLines_envLines (lines : List Line) (s : State) :
    (boundaryLines lines s).sched.envLines = lines := rfl
@[simp] theorem boundaryLines_signals (lines : List Line) (s : State) :
    (boundaryLines lines s).sched.signals = wireLevels s := rfl
@[simp] theorem driveLines_tick (s : State) : (driveLines s).sched.tickCount = s.sched.tickCount := rfl
@[simp] theorem driveLines_linesOut (s : State) : (driveLines s).sched.linesOut = drivenLines s := rfl
@[simp] theorem driveLines_drivenLines (s : State) : drivenLines (driveLines s) = drivenLines s := rfl
@[simp] theorem mixerFetch_tick (s : State) (a : Addr) : (mixerFetch s a).sched.tickCount = s.sched.tickCount := rfl
@[simp] theorem mixerStep_tick (s : State) (a : Addr) : (mixerStep s a).sched.tickCount = s.sched.tickCount := rfl
@[simp] theorem vtgUpdate_vtg (s : State) : (vtgUpdate s).vtg = vtgTick s.cfg.vtg s.vtg := rfl
@[simp] theorem fdcUpdate_fdc (s : State) : (fdcUpdate s).fdc = (fdcTick s.cfg s.drives s.fdc).1 := rfl
@[simp] theorem fdcUpdate_drives (s : State) : (fdcUpdate s).drives = (fdcTick s.cfg s.drives s.fdc).2 := rfl

/-! ## Updates of the core -/

@[simp] theorem bumpPc_regs (u : Cpu) : u.bumpPc.regs = u.regs := rfl
@[simp] theorem bumpPc_phase (u : Cpu) : u.bumpPc.phase = u.phase := rfl
@[simp] theorem bumpPc_latch (u : Cpu) : u.bumpPc.latch = u.latch := rfl
@[simp] theorem bumpPc_seqKind (u : Cpu) : u.bumpPc.seqKind = u.seqKind := rfl
@[simp] theorem bumpPc_pend (u : Cpu) : u.bumpPc.pend = u.pend := rfl
@[simp] theorem bumpPc_illegal (u : Cpu) : u.bumpPc.illegal = u.illegal := rfl
@[simp] theorem decS_pc (u : Cpu) : u.decS.pc = u.pc := rfl
@[simp] theorem decS_phase (u : Cpu) : u.decS.phase = u.phase := rfl
@[simp] theorem decS_latch (u : Cpu) : u.decS.latch = u.latch := rfl
@[simp] theorem decS_seqKind (u : Cpu) : u.decS.seqKind = u.seqKind := rfl
@[simp] theorem decS_pend (u : Cpu) : u.decS.pend = u.pend := rfl
@[simp] theorem decS_illegal (u : Cpu) : u.decS.illegal = u.illegal := rfl
@[simp] theorem incS_pc (u : Cpu) : u.incS.pc = u.pc := rfl
@[simp] theorem incS_phase (u : Cpu) : u.incS.phase = u.phase := rfl
@[simp] theorem incS_latch (u : Cpu) : u.incS.latch = u.latch := rfl
@[simp] theorem incS_seqKind (u : Cpu) : u.incS.seqKind = u.seqKind := rfl
@[simp] theorem incS_pend (u : Cpu) : u.incS.pend = u.pend := rfl
@[simp] theorem incS_illegal (u : Cpu) : u.incS.illegal = u.illegal := rfl
@[simp] theorem operate_pc (m : Micro) (b : Byte) (u : Cpu) : (u.operate m b).pc = u.pc := rfl
@[simp] theorem operate_phase (m : Micro) (b : Byte) (u : Cpu) : (u.operate m b).phase = u.phase := rfl
@[simp] theorem operate_seqKind (m : Micro) (b : Byte) (u : Cpu) : (u.operate m b).seqKind = u.seqKind := rfl
@[simp] theorem operate_pend (m : Micro) (b : Byte) (u : Cpu) : (u.operate m b).pend = u.pend := rfl
@[simp] theorem operate_illegal (m : Micro) (b : Byte) (u : Cpu) : (u.operate m b).illegal = u.illegal := rfl
@[simp] theorem indexAdl_regs (i : Byte) (u : Cpu) : (u.indexAdl i).regs = u.regs := rfl
@[simp] theorem indexAdl_pc (i : Byte) (u : Cpu) : (u.indexAdl i).pc = u.pc := rfl
@[simp] theorem indexAdl_phase (i : Byte) (u : Cpu) : (u.indexAdl i).phase = u.phase := rfl
@[simp] theorem indexAdl_seqKind (i : Byte) (u : Cpu) : (u.indexAdl i).seqKind = u.seqKind := rfl
@[simp] theorem indexAdl_pend (i : Byte) (u : Cpu) : (u.indexAdl i).pend = u.pend := rfl
@[simp] theorem indexAdl_illegal (i : Byte) (u : Cpu) : (u.indexAdl i).illegal = u.illegal := rfl
@[simp] theorem fixAdh_regs (u : Cpu) : u.fixAdh.regs = u.regs := rfl
@[simp] theorem fixAdh_pc (u : Cpu) : u.fixAdh.pc = u.pc := rfl
@[simp] theorem fixAdh_phase (u : Cpu) : u.fixAdh.phase = u.phase := rfl
@[simp] theorem fixAdh_seqKind (u : Cpu) : u.fixAdh.seqKind = u.seqKind := rfl
@[simp] theorem fixAdh_pend (u : Cpu) : u.fixAdh.pend = u.pend := rfl
@[simp] theorem fixAdh_illegal (u : Cpu) : u.fixAdh.illegal = u.illegal := rfl
@[simp] theorem branchHigh_regs (u : Cpu) : u.branchHigh.regs = u.regs := rfl
@[simp] theorem branchHigh_phase (u : Cpu) : u.branchHigh.phase = u.phase := rfl
@[simp] theorem branchHigh_latch (u : Cpu) : u.branchHigh.latch = u.latch := rfl
@[simp] theorem branchHigh_seqKind (u : Cpu) : u.branchHigh.seqKind = u.seqKind := rfl
@[simp] theorem branchHigh_pend (u : Cpu) : u.branchHigh.pend = u.pend := rfl
@[simp] theorem branchHigh_illegal (u : Cpu) : u.branchHigh.illegal = u.illegal := rfl
@[simp] theorem bumpPc_pc (u : Cpu) : u.bumpPc.pc = u.pc + 1#16 := rfl
@[simp] theorem decS_regs (u : Cpu) : u.decS.regs = { u.regs with s := u.regs.s - 1#8 } := rfl
@[simp] theorem incS_regs (u : Cpu) : u.incS.regs = { u.regs with s := u.regs.s + 1#8 } := rfl
@[simp] theorem operate_regs (m : Micro) (b : Byte) (u : Cpu) : (u.operate m b).regs = m.exec u.regs b := rfl
@[simp] theorem operate_latch (m : Micro) (b : Byte) (u : Cpu) :
    (u.operate m b).latch = { u.latch with dl := b } := rfl
@[simp] theorem indexAdl_latch (i : Byte) (u : Cpu) : (u.indexAdl i).latch =
    { u.latch with carryFix := byteCarry u.latch.adl i, adl := u.latch.adl + i } := rfl
@[simp] theorem fixAdh_latch (u : Cpu) : u.fixAdh.latch =
    { u.latch with adh := if u.latch.carryFix then u.latch.adh + 1#8 else u.latch.adh } := rfl
@[simp] theorem cycleCommit_phase (m : Micro) (next : Phase) (c : Cycle) (b : Byte) (u : Cpu) :
    (cycleCommit m next c b u).phase = if (cycleEffect m c b u).2 then .fetch else next := rfl
@[simp] theorem cycleCommit_regs (m : Micro) (next : Phase) (c : Cycle) (b : Byte) (u : Cpu) :
    (cycleCommit m next c b u).regs = (cycleEffect m c b u).1.regs := rfl
@[simp] theorem cycleCommit_pc (m : Micro) (next : Phase) (c : Cycle) (b : Byte) (u : Cpu) :
    (cycleCommit m next c b u).pc = (cycleEffect m c b u).1.pc := rfl
@[simp] theorem cycleCommit_latch (m : Micro) (next : Phase) (c : Cycle) (b : Byte) (u : Cpu) :
    (cycleCommit m next c b u).latch = (cycleEffect m c b u).1.latch := rfl
@[simp] theorem cycleCommit_illegal (m : Micro) (next : Phase) (c : Cycle) (b : Byte) (u : Cpu) :
    (cycleCommit m next c b u).illegal = (cycleEffect m c b u).1.illegal := rfl
@[simp] theorem cycleCommit_seqKind (m : Micro) (next : Phase) (c : Cycle) (b : Byte) (u : Cpu) :
    (cycleCommit m next c b u).seqKind = (cycleEffect m c b u).1.seqKind := rfl
@[simp] theorem cycleCommit_pend (m : Micro) (next : Phase) (c : Cycle) (b : Byte) (u : Cpu) :
    (cycleCommit m next c b u).pend = (cycleEffect m c b u).1.pend := rfl

end Sys2Proof.Machine
end

