-- ==== Sys2Proof/Laws/Memory.lean ====
section
/-! SUPPORT. Sys2Proof/Laws/Memory.lean: the memory operations: a read after a write, the canonical form, and
memory as the bus reads and writes it. -/

namespace Sys2Proof.Machine

/-! ## Reads after writes -/

theorem Memory.read_insert (m : List Host.Cell) (a b : Nat) (v : Byte) (h : ∀ c ∈ m, c.1 ≠ a) :
    Memory.read (Memory.insert a v m) b = if a = b then v else Memory.read m b := by
  induction m with
  | nil => simp [Memory.insert, Memory.read]
  | cons c m ih =>
    obtain ⟨k, w⟩ := c
    have hk : k ≠ a := h (k, w) (by simp)
    have ih := ih fun c hc => h c (by simp [hc])
    unfold Memory.insert
    split
    · simp [Memory.read]
    · by_cases hab : a = b
      · subst hab; simp [Memory.read, hk, ih]
      · simp [Memory.read, ih, hab]

theorem Memory.read_filter (m : List Host.Cell) (a b : Nat) :
    Memory.read (m.filter fun c => c.1 != a) b = if a = b then Memory.unlisted else Memory.read m b := by
  induction m with
  | nil => simp [Memory.read]
  | cons c m ih =>
    obtain ⟨k, w⟩ := c
    by_cases hk : k = a
    · subst hk
      by_cases hb : k = b
      · subst hb; simpa using ih
      · simpa [Memory.read, hb] using ih
    · by_cases hb : k = b
      · subst hb; simp [Memory.read, hk, Ne.symm hk]
      · simp [Memory.read, hk, ih, hb]

/-- A read after a write: the byte written at its address, every other address as before. -/
theorem Memory.read_write (m : List Host.Cell) (a b : Nat) (v : Byte) :
    Memory.read (Memory.write m a v) b = if a = b then v else Memory.read m b := by
  unfold Memory.write
  by_cases hv : v = Memory.unlisted
  · simp [hv, Memory.read_filter]
  · have h : ∀ c ∈ m.filter fun c => c.1 != a, c.1 ≠ a := by simp
    simp only [hv, if_false, Memory.read_insert _ a b v h, Memory.read_filter]
    split <;> rfl

@[simp] theorem Memory.read_write_same (m : List Host.Cell) (a : Nat) (v : Byte) :
    Memory.read (Memory.write m a v) a = v := by
  simp [Memory.read_write]

theorem Memory.read_write_other (m : List Host.Cell) {a b : Nat} (v : Byte) (h : a ≠ b) :
    Memory.read (Memory.write m a v) b = Memory.read m b := by
  simp [Memory.read_write, h]

/-! ## The canonical form -/

theorem Memory.wf_cons {k : Nat} {b : Byte} {m : List Host.Cell} :
    Memory.wf ((k, b) :: m) = true ↔
      k < 65536 ∧ b ≠ Memory.unlisted ∧ (∀ c ∈ m, k < c.1) ∧ Memory.wf m = true := by
  simp [Memory.wf, and_assoc]

theorem Memory.wf_filter {m : List Host.Cell} (p : Host.Cell → Bool) (h : Memory.wf m = true) :
    Memory.wf (m.filter p) = true := by
  induction m with
  | nil => simpa using h
  | cons c m ih =>
    obtain ⟨k, b⟩ := c
    obtain ⟨h1, h2, h3, h4⟩ := Memory.wf_cons.mp h
    by_cases hp : p (k, b)
    · rw [List.filter_cons_of_pos hp]
      exact Memory.wf_cons.mpr ⟨h1, h2, fun c hc => h3 c (List.mem_of_mem_filter hc), ih h4⟩
    · rw [List.filter_cons_of_neg hp]
      exact ih h4

theorem Memory.mem_insert {a : Nat} {v : Byte} {m : List Host.Cell} {c : Host.Cell}
    (h : c ∈ Memory.insert a v m) : c = (a, v) ∨ c ∈ m := by
  induction m with
  | nil => simpa [Memory.insert] using h
  | cons d m ih =>
    obtain ⟨k, b⟩ := d
    unfold Memory.insert at h
    split at h
    · simpa using h
    · rcases List.mem_cons.mp h with h | h
      · exact .inr (by simp [h])
      · rcases ih h with h | h
        · exact .inl h
        · exact .inr (by simp [h])

theorem Memory.wf_insert {m : List Host.Cell} {a : Nat} {v : Byte} (ha : a < 65536) (hv : v ≠ Memory.unlisted)
    (hm : ∀ c ∈ m, c.1 ≠ a) (h : Memory.wf m = true) : Memory.wf (Memory.insert a v m) = true := by
  induction m with
  | nil => exact Memory.wf_cons.mpr ⟨ha, hv, by simp, rfl⟩
  | cons c m ih =>
    obtain ⟨k, b⟩ := c
    obtain ⟨h1, h2, h3, h4⟩ := Memory.wf_cons.mp h
    have hk : k ≠ a := hm (k, b) (by simp)
    unfold Memory.insert
    split
    · rename_i hlt
      refine Memory.wf_cons.mpr ⟨ha, hv, ?_, h⟩
      intro c hc
      rcases List.mem_cons.mp hc with rfl | hc
      · exact hlt
      · exact lt_trans hlt (h3 c hc)
    · refine Memory.wf_cons.mpr ⟨h1, h2, ?_, ih (fun c hc => hm c (by simp [hc])) h4⟩
      intro c hc
      rcases Memory.mem_insert hc with rfl | hc
      · simp only; omega
      · exact h3 c hc

/-- A write keeps the canonical form. -/
theorem Memory.wf_write {m : List Host.Cell} (a : Addr) (v : Byte) (h : Memory.wf m = true) :
    Memory.wf (Memory.write m a.toNat v) = true := by
  unfold Memory.write
  by_cases hv : v = Memory.unlisted
  · simpa [hv] using Memory.wf_filter _ h
  · simpa [hv] using Memory.wf_insert a.isLt hv (by simp) (Memory.wf_filter _ h)

theorem Memory.filter_insert (m : List Host.Cell) (a : Nat) (v : Byte) :
    (Memory.insert a v m).filter (fun c => c.1 != a) = m.filter fun c => c.1 != a := by
  induction m with
  | nil => simp [Memory.insert]
  | cons c m ih =>
    obtain ⟨k, w⟩ := c
    unfold Memory.insert
    split
    · simp
    · simp [List.filter_cons, ih]

/-- Of two writes to one address the second stays. -/
theorem Memory.write_write (m : List Host.Cell) (a : Nat) (v w : Byte) :
    Memory.write (Memory.write m a v) a w = Memory.write m a w := by
  have h : (Memory.write m a v).filter (fun c => c.1 != a) = m.filter fun c => c.1 != a := by
    unfold Memory.write
    simp only
    split
    · simp
    · rw [Memory.filter_insert]; simp
  simp only [Memory.write] at h ⊢
  simp only [h]

/-- The memory of the machine after reset is in its canonical form. -/
theorem reset_mem_wf : Memory.wf State.reset.mem = true := rfl

/-! ## Memory through the address map -/

/-- A writable region that owns an address is one that memory owns (rule R38). -/
theorem memoryOwned_of_ramOwned {c : Config} {a : Addr} (h : ramOwned c a = true) : memoryOwned c a = true := by
  unfold ramOwned at h
  unfold memoryOwned
  split at h
  · simp_all
  · simp at h

/-- The byte at any address after a core write (rule R64). -/
theorem memoryByte_storeIn (c : Config) (m : Memory) (a b : Addr) (v : Byte) :
    memoryByte c (storeIn c m a v) b =
      if a = b ∧ ramOwned c a = true then v else memoryByte c m b := by
  by_cases hr : ramOwned c a = true
  · by_cases hab : a = b
    · subst hab
      simp only [storeIn, hr, memoryByte]
      unfold ramOwned at hr
      split at hr
      · rename_i e he
        have : e.owner = .ram := by simpa using hr
        simp [this]
      · simp at hr
    · have hn : a.toNat ≠ b.toNat := fun h => hab (BitVec.eq_of_toNat_eq h)
      simp [storeIn, hr, memoryByte, Memory.read_write_other _ _ hn, hab]
  · simp [storeIn, hr]

/-! ## Banked regions -/

theorem bankAt_set {c : Config} {bs : List Bank} {k : Nat} {p : BankCfg × Bank} (h : bankAt c bs k = some p)
    (b : Bank) : bankAt c (bs.set k b) k = some (p.1, b) := by
  unfold bankAt at h ⊢
  cases hc : c.banks[k]? with
  | none => simp [hc] at h
  | some x =>
    cases hb : bs[k]? with
    | none => simp [hb] at h
    | some y =>
      obtain ⟨hlt, -⟩ := List.getElem?_eq_some_iff.mp hb
      have hx : (x, y) = p := by simpa [hc, hb] using h
      simp [hlt, ← hx]

theorem bankNumber_write (c : BankCfg) (b : Bank) (a : Addr) (v : Byte) :
    bankNumber c (bankWrite c b a v) = bankNumber c b := by
  unfold bankWrite; split <;> rfl

theorem bankWrite_twice (c : BankCfg) (b : Bank) (a : Addr) (v w : Byte) :
    bankWrite c (bankWrite c b a v) a w = bankWrite c b a w := by
  unfold bankWrite
  by_cases h : c.writable = true
  · simp only [h, if_true]
    by_cases hlt : bankNumber c b < b.content.length
    · simp [bankNumber, List.getD_eq_getElem?_getD] at hlt ⊢
      simp [hlt, Memory.write_write]
    · have : b.content.length ≤ bankNumber c b := by omega
      simp [bankNumber] at this ⊢
      simp [List.set_eq_of_length_le, this]
  · simp [h]

/-- Of two writes to one address the banked regions keep the second. -/
theorem storeBanks_twice (c : Config) (bs : List Bank) (a : Addr) (v w : Byte) :
    storeBanks c (storeBanks c bs a v) a w = storeBanks c bs a w := by
  have hm : ∀ old ro : Byte, writeMasked (writeMasked old v ro) w ro = writeMasked old w ro := by
    intro old ro
    unfold writeMasked
    ext i
    simp only [BitVec.getElem_or, BitVec.getElem_and, BitVec.getElem_not]
    cases old[i] <;> cases ro[i] <;> cases v[i] <;> cases w[i] <;> rfl
  unfold storeBanks
  cases h : mapEntry c a with
  | none => rfl
  | some e =>
    cases ho : e.owner with
    | bank k =>
      cases hk : bankAt c bs k with
      | none => simp [ho, hk]
      | some p => simp [ho, hk, bankAt_set hk, bankWrite_twice]
    | bankSelect k =>
      cases hk : bankAt c bs k with
      | none => simp [ho, hk]
      | some p => simp [ho, hk, bankAt_set hk, bankChoose, hm]
    | _ => simp [ho]

/-- Every bank keeps the canonical form. -/
theorem banksInv_storeBanks {c : Config} {bs : List Bank} (a : Addr) (v : Byte) (h : banksInv bs) :
    banksInv (storeBanks c bs a v) := by
  have hset : ∀ (k : Nat) (b : Bank), (∀ m ∈ b.content, Memory.wf m = true) → banksInv (bs.set k b) := by
    intro k b hb x hx
    rcases List.mem_or_eq_of_mem_set hx with hx | rfl
    · exact h x hx
    · exact hb
  have hmem : ∀ (k : Nat) (p : BankCfg × Bank), bankAt c bs k = some p → p.2 ∈ bs := by
    intro k p hp
    unfold bankAt at hp
    cases hc : c.banks[k]? with
    | none => simp [hc] at hp
    | some x =>
      cases hb : bs[k]? with
      | none => simp [hb] at hp
      | some y =>
        have : (x, y) = p := by simpa [hc, hb] using hp
        rw [← this]
        exact List.mem_of_getElem? hb
  unfold storeBanks
  split
  · exact h
  · split
    · split
      · rename_i k _ _ p hp
        refine hset k _ ?_
        unfold bankWrite
        split
        · intro m hm
          rcases List.mem_or_eq_of_mem_set hm with hm | rfl
          · exact h _ (hmem k p hp) m hm
          · apply Memory.wf_write
            rw [List.getD_eq_getElem?_getD]
            cases hq : p.2.content[bankNumber p.1 p.2]? with
            | none => rfl
            | some q => exact h _ (hmem k p hp) q (List.mem_of_getElem? hq)
        · exact h _ (hmem k p hp)
      · exact h
    · split
      · rename_i k _ _ p hp
        exact hset k _ fun m hm => h p.2 (hmem k p hp) m hm
      · exact h
    · exact h

/-- A store keeps the canonical form. -/
theorem wf_storeIn {c : Config} {m : Memory} (a : Addr) (v : Byte) (h : Memory.wf m = true) :
    Memory.wf (storeIn c m a v) = true := by
  unfold storeIn
  split
  · exact Memory.wf_write a v h
  · exact h

end Sys2Proof.Machine
end

