-- ==== Sys2Proof/Laws/Tick.lean ====
section
/-! SUPPORT. Sys2Proof/Laws/Tick.lean: what a bus access, the boundary, the chips' updates and the ticks in
which the core idles can do to the parts of the state they do not own, and one turn of the core as a whole. -/

namespace Sys2Proof.Machine

/-! ## Bus accesses -/

@[simp] theorem resolveRead_cfg (a : Addr) (s : State) : (resolveRead a s).2.cfg = s.cfg := by
  unfold resolveRead
  repeat' split
  all_goals rfl

@[simp] theorem resolveRead_cpu (a : Addr) (s : State) : (resolveRead a s).2.cpu = s.cpu := by
  unfold resolveRead
  repeat' split
  all_goals rfl

@[simp] theorem resolveRead_mem (a : Addr) (s : State) : (resolveRead a s).2.mem = s.mem := by
  unfold resolveRead
  repeat' split
  all_goals rfl

@[simp] theorem resolveRead_banks (a : Addr) (s : State) : (resolveRead a s).2.banks = s.banks := by
  unfold resolveRead
  repeat' split
  all_goals rfl

@[simp] theorem resolveRead_vtg (a : Addr) (s : State) : (resolveRead a s).2.vtg = s.vtg := by
  unfold resolveRead
  repeat' split
  all_goals rfl

@[simp] theorem resolveRead_mixer (a : Addr) (s : State) : (resolveRead a s).2.mixer = s.mixer := by
  unfold resolveRead
  repeat' split
  all_goals rfl

@[simp] theorem resolveRead_drives (a : Addr) (s : State) : (resolveRead a s).2.drives = s.drives := by
  unfold resolveRead
  repeat' split
  all_goals rfl

@[simp] theorem resolveRead_input (a : Addr) (s : State) : (resolveRead a s).2.input = s.input := by
  unfold resolveRead
  repeat' split
  all_goals rfl

@[simp] theorem resolveRead_output (a : Addr) (s : State) : (resolveRead a s).2.output = s.output := by
  unfold resolveRead
  repeat' split
  all_goals rfl

@[simp] theorem resolveRead_bus (a : Addr) (s : State) : (resolveRead a s).2.bus = s.bus := by
  unfold resolveRead
  repeat' split
  all_goals rfl

@[simp] theorem resolveRead_sched_tickCount (a : Addr) (s : State) : (resolveRead a s).2.sched.tickCount = s.sched.tickCount := by
  unfold resolveRead
  repeat' split
  all_goals rfl

@[simp] theorem resolveRead_sched_linesOut (a : Addr) (s : State) : (resolveRead a s).2.sched.linesOut = s.sched.linesOut := by
  unfold resolveRead
  repeat' split
  all_goals rfl

@[simp] theorem resolveRead_sched_envLines (a : Addr) (s : State) : (resolveRead a s).2.sched.envLines = s.sched.envLines := by
  unfold resolveRead
  repeat' split
  all_goals rfl

@[simp] theorem resolveWrite_cfg (a : Addr) (v : Byte) (s : State) :
    (resolveWrite a v s).cfg = s.cfg := by
  unfold resolveWrite
  repeat' split
  all_goals rfl

@[simp] theorem resolveWrite_cpu (a : Addr) (v : Byte) (s : State) :
    (resolveWrite a v s).cpu = s.cpu := by
  unfold resolveWrite
  repeat' split
  all_goals rfl

@[simp] theorem resolveWrite_drives (a : Addr) (v : Byte) (s : State) :
    (resolveWrite a v s).drives = s.drives := by
  unfold resolveWrite
  repeat' split
  all_goals rfl

@[simp] theorem resolveWrite_input (a : Addr) (v : Byte) (s : State) :
    (resolveWrite a v s).input = s.input := by
  unfold resolveWrite
  repeat' split
  all_goals rfl

@[simp] theorem resolveWrite_bus (a : Addr) (v : Byte) (s : State) :
    (resolveWrite a v s).bus = s.bus := by
  unfold resolveWrite
  repeat' split
  all_goals rfl

@[simp] theorem resolveWrite_sched_tickCount (a : Addr) (v : Byte) (s : State) :
    (resolveWrite a v s).sched.tickCount = s.sched.tickCount := by
  unfold resolveWrite
  repeat' split
  all_goals rfl

@[simp] theorem resolveWrite_sched_linesOut (a : Addr) (v : Byte) (s : State) :
    (resolveWrite a v s).sched.linesOut = s.sched.linesOut := by
  unfold resolveWrite
  repeat' split
  all_goals rfl

@[simp] theorem resolveWrite_sched_envLines (a : Addr) (v : Byte) (s : State) :
    (resolveWrite a v s).sched.envLines = s.sched.envLines := by
  unfold resolveWrite
  repeat' split
  all_goals rfl

/-- A core write changes memory in a writable region only (rule R64). -/
@[simp] theorem resolveWrite_mem (a : Addr) (v : Byte) (s : State) :
    (resolveWrite a v s).mem = storeIn s.cfg s.mem a v := by
  unfold resolveWrite storeIn ramOwned
  cases hm : mapEntry s.cfg a with
  | none => simp
  | some e =>
    cases ho : e.owner <;> simp [ho]
    split <;> rfl

/-- A core write changes the banked regions as the bank or the register it reaches says (rules R64, R69). -/
@[simp] theorem resolveWrite_banks (a : Addr) (v : Byte) (s : State) :
    (resolveWrite a v s).banks = storeBanks s.cfg s.banks a v := by
  unfold resolveWrite
  cases hm : mapEntry s.cfg a with
  | none => simp [storeBanks, hm]
  | some e =>
    cases ho : e.owner <;> simp [ho, storeBanks, hm]
    split <;> rfl

/-- What a memory region or nobody answers to a core read (rules R64, R65, R69). -/
theorem resolveRead_answers (a : Addr) (s : State) : answers s.cfg s.mem s.banks a (resolveRead a s).1 := by
  unfold answers regionByte resolveRead
  cases hm : mapEntry s.cfg a with
  | none => simp
  | some e => cases ho : e.owner <;> simp [ho, State.peek]

/-- A core read whose address memory owns (rule R64). -/
theorem resolveRead_owned {a : Addr} {s : State} (h : memoryOwned s.cfg a = true) :
    resolveRead a s = (s.peek a, s) := by
  unfold memoryOwned at h
  unfold resolveRead
  cases hm : mapEntry s.cfg a with
  | none => simp [hm] at h
  | some e =>
    rw [hm] at h
    cases ho : e.owner <;> simp_all

theorem ifChips_length_read (a : Addr) (s : State) : (resolveRead a s).2.ifChips.length = s.ifChips.length := by
  unfold resolveRead
  repeat' split
  all_goals simp

theorem ifChips_length_write (a : Addr) (v : Byte) (s : State) :
    (resolveWrite a v s).ifChips.length = s.ifChips.length := by
  unfold resolveWrite
  repeat' split
  all_goals simp

/-! ## The boundary -/

@[simp] theorem queueEvent_cfg (s : State) (e : Nat × IfEvent) : (queueEvent s e).cfg = s.cfg := by
  unfold queueEvent; split <;> rfl

@[simp] theorem queueEvents_cfg (es : List (Nat × IfEvent)) (s : State) :
    (es.foldl queueEvent s).cfg = s.cfg := by
  induction es generalizing s with
  | nil => rfl
  | cons e es ih => simp [ih]

@[simp] theorem queueEvent_cpu (s : State) (e : Nat × IfEvent) : (queueEvent s e).cpu = s.cpu := by
  unfold queueEvent; split <;> rfl

@[simp] theorem queueEvents_cpu (es : List (Nat × IfEvent)) (s : State) :
    (es.foldl queueEvent s).cpu = s.cpu := by
  induction es generalizing s with
  | nil => rfl
  | cons e es ih => simp [ih]

@[simp] theorem queueEvent_mem (s : State) (e : Nat × IfEvent) : (queueEvent s e).mem = s.mem := by
  unfold queueEvent; split <;> rfl

@[simp] theorem queueEvents_mem (es : List (Nat × IfEvent)) (s : State) :
    (es.foldl queueEvent s).mem = s.mem := by
  induction es generalizing s with
  | nil => rfl
  | cons e es ih => simp [ih]

@[simp] theorem queueEvent_banks (s : State) (e : Nat × IfEvent) : (queueEvent s e).banks = s.banks := by
  unfold queueEvent; split <;> rfl

@[simp] theorem queueEvents_banks (es : List (Nat × IfEvent)) (s : State) :
    (es.foldl queueEvent s).banks = s.banks := by
  induction es generalizing s with
  | nil => rfl
  | cons e es ih => simp [ih]

@[simp] theorem queueEvent_vtg (s : State) (e : Nat × IfEvent) : (queueEvent s e).vtg = s.vtg := by
  unfold queueEvent; split <;> rfl

@[simp] theorem queueEvents_vtg (es : List (Nat × IfEvent)) (s : State) :
    (es.foldl queueEvent s).vtg = s.vtg := by
  induction es generalizing s with
  | nil => rfl
  | cons e es ih => simp [ih]

@[simp] theorem queueEvent_mixer (s : State) (e : Nat × IfEvent) : (queueEvent s e).mixer = s.mixer := by
  unfold queueEvent; split <;> rfl

@[simp] theorem queueEvents_mixer (es : List (Nat × IfEvent)) (s : State) :
    (es.foldl queueEvent s).mixer = s.mixer := by
  induction es generalizing s with
  | nil => rfl
  | cons e es ih => simp [ih]

@[simp] theorem queueEvent_fdc (s : State) (e : Nat × IfEvent) : (queueEvent s e).fdc = s.fdc := by
  unfold queueEvent; split <;> rfl

@[simp] theorem queueEvents_fdc (es : List (Nat × IfEvent)) (s : State) :
    (es.foldl queueEvent s).fdc = s.fdc := by
  induction es generalizing s with
  | nil => rfl
  | cons e es ih => simp [ih]

@[simp] theorem queueEvent_drives (s : State) (e : Nat × IfEvent) : (queueEvent s e).drives = s.drives := by
  unfold queueEvent; split <;> rfl

@[simp] theorem queueEvents_drives (es : List (Nat × IfEvent)) (s : State) :
    (es.foldl queueEvent s).drives = s.drives := by
  induction es generalizing s with
  | nil => rfl
  | cons e es ih => simp [ih]

@[simp] theorem queueEvent_input (s : State) (e : Nat × IfEvent) : (queueEvent s e).input = s.input := by
  unfold queueEvent; split <;> rfl

@[simp] theorem queueEvents_input (es : List (Nat × IfEvent)) (s : State) :
    (es.foldl queueEvent s).input = s.input := by
  induction es generalizing s with
  | nil => rfl
  | cons e es ih => simp [ih]

@[simp] theorem queueEvent_output (s : State) (e : Nat × IfEvent) : (queueEvent s e).output = s.output := by
  unfold queueEvent; split <;> rfl

@[simp] theorem queueEvents_output (es : List (Nat × IfEvent)) (s : State) :
    (es.foldl queueEvent s).output = s.output := by
  induction es generalizing s with
  | nil => rfl
  | cons e es ih => simp [ih]

@[simp] theorem queueEvent_bus (s : State) (e : Nat × IfEvent) : (queueEvent s e).bus = s.bus := by
  unfold queueEvent; split <;> rfl

@[simp] theorem queueEvents_bus (es : List (Nat × IfEvent)) (s : State) :
    (es.foldl queueEvent s).bus = s.bus := by
  induction es generalizing s with
  | nil => rfl
  | cons e es ih => simp [ih]

@[simp] theorem queueEvent_sched_tickCount (s : State) (e : Nat × IfEvent) : (queueEvent s e).sched.tickCount = s.sched.tickCount := by
  unfold queueEvent; split <;> rfl

@[simp] theorem queueEvents_sched_tickCount (es : List (Nat × IfEvent)) (s : State) :
    (es.foldl queueEvent s).sched.tickCount = s.sched.tickCount := by
  induction es generalizing s with
  | nil => rfl
  | cons e es ih => simp [ih]

@[simp] theorem queueEvent_sched_linesOut (s : State) (e : Nat × IfEvent) : (queueEvent s e).sched.linesOut = s.sched.linesOut := by
  unfold queueEvent; split <;> rfl

@[simp] theorem queueEvents_sched_linesOut (es : List (Nat × IfEvent)) (s : State) :
    (es.foldl queueEvent s).sched.linesOut = s.sched.linesOut := by
  induction es generalizing s with
  | nil => rfl
  | cons e es ih => simp [ih]

@[simp] theorem queueEvent_sched_linesLatched (s : State) (e : Nat × IfEvent) : (queueEvent s e).sched.linesLatched = s.sched.linesLatched := by
  unfold queueEvent; split <;> rfl

@[simp] theorem queueEvents_sched_linesLatched (es : List (Nat × IfEvent)) (s : State) :
    (es.foldl queueEvent s).sched.linesLatched = s.sched.linesLatched := by
  induction es generalizing s with
  | nil => rfl
  | cons e es ih => simp [ih]

@[simp] theorem queueEvent_sched_envLines (s : State) (e : Nat × IfEvent) : (queueEvent s e).sched.envLines = s.sched.envLines := by
  unfold queueEvent; split <;> rfl

@[simp] theorem queueEvents_sched_envLines (es : List (Nat × IfEvent)) (s : State) :
    (es.foldl queueEvent s).sched.envLines = s.sched.envLines := by
  induction es generalizing s with
  | nil => rfl
  | cons e es ih => simp [ih]

@[simp] theorem queueEvent_sched_signals (s : State) (e : Nat × IfEvent) : (queueEvent s e).sched.signals = s.sched.signals := by
  unfold queueEvent; split <;> rfl

@[simp] theorem queueEvents_sched_signals (es : List (Nat × IfEvent)) (s : State) :
    (es.foldl queueEvent s).sched.signals = s.sched.signals := by
  induction es generalizing s with
  | nil => rfl
  | cons e es ih => simp [ih]

@[simp] theorem boundaryOn_cfg (i : TickInput) (s : State) : (boundaryOn i s).cfg = s.cfg := by
  simp [boundaryOn]

@[simp] theorem boundaryOn_mem (i : TickInput) (s : State) : (boundaryOn i s).mem = s.mem := by
  simp [boundaryOn]

@[simp] theorem boundaryOn_banks (i : TickInput) (s : State) : (boundaryOn i s).banks = s.banks := by
  simp [boundaryOn]

@[simp] theorem boundaryOn_vtg (i : TickInput) (s : State) : (boundaryOn i s).vtg = s.vtg := by
  simp [boundaryOn]

@[simp] theorem boundaryOn_mixer (i : TickInput) (s : State) : (boundaryOn i s).mixer = s.mixer := by
  simp [boundaryOn]

@[simp] theorem boundaryOn_fdc (i : TickInput) (s : State) : (boundaryOn i s).fdc = s.fdc := by
  simp [boundaryOn]

@[simp] theorem boundaryOn_input (i : TickInput) (s : State) : (boundaryOn i s).input = s.input := by
  simp [boundaryOn]

@[simp] theorem boundaryOn_output (i : TickInput) (s : State) : (boundaryOn i s).output = s.output := by
  simp [boundaryOn]

@[simp] theorem boundaryOn_bus (i : TickInput) (s : State) : (boundaryOn i s).bus = s.bus := by
  simp [boundaryOn]

@[simp] theorem boundary_cfg (s : State) : (boundary s).cfg = s.cfg :=
  boundaryOn_cfg _ _

@[simp] theorem boundary_mem (s : State) : (boundary s).mem = s.mem :=
  boundaryOn_mem _ _

@[simp] theorem boundary_banks (s : State) : (boundary s).banks = s.banks :=
  boundaryOn_banks _ _

@[simp] theorem boundary_vtg (s : State) : (boundary s).vtg = s.vtg :=
  boundaryOn_vtg _ _

@[simp] theorem boundary_mixer (s : State) : (boundary s).mixer = s.mixer :=
  boundaryOn_mixer _ _

@[simp] theorem boundary_fdc (s : State) : (boundary s).fdc = s.fdc :=
  boundaryOn_fdc _ _

@[simp] theorem boundary_output (s : State) : (boundary s).output = s.output :=
  boundaryOn_output _ _

@[simp] theorem boundary_bus (s : State) : (boundary s).bus = s.bus :=
  boundaryOn_bus _ _

/-- The boundary changes the core's pending flags only (rule R419). -/
@[simp] theorem boundaryOn_cpu (i : TickInput) (s : State) :
    (boundaryOn i s).cpu = { s.cpu with pend := routeLines s.sched.linesOut s.cpu.pend } := by
  simp [boundaryOn]

@[simp] theorem boundaryOn_tick (i : TickInput) (s : State) :
    (boundaryOn i s).sched.tickCount = s.sched.tickCount + 1 := by
  simp [boundaryOn]

@[simp] theorem boundaryOn_latched (i : TickInput) (s : State) :
    (boundaryOn i s).sched.linesLatched = s.sched.linesOut := by
  simp [boundaryOn]

@[simp] theorem boundaryOn_signals (i : TickInput) (s : State) : (boundaryOn i s).sched.signals = wireLevels s := by
  simp [boundaryOn]

@[simp] theorem boundary_cpu (s : State) :
    (boundary s).cpu = { s.cpu with pend := routeLines s.sched.linesOut s.cpu.pend } :=
  boundaryOn_cpu _ _

@[simp] theorem boundary_tick (s : State) : (boundary s).sched.tickCount = s.sched.tickCount + 1 :=
  boundaryOn_tick _ _

@[simp] theorem boundary_latched (s : State) : (boundary s).sched.linesLatched = s.sched.linesOut :=
  boundaryOn_latched _ _

@[simp] theorem boundary_input (s : State) : (boundary s).input = s.input.tail :=
  boundaryOn_input _ _

@[simp] theorem boundary_peek (s : State) (a : Addr) : (boundary s).peek a = s.peek a := by
  simp [State.peek]

/-! ## The chips' updates -/

@[simp] theorem ifTickAt_cfg (s : State) (k : Nat) : (ifTickAt s k).cfg = s.cfg := by
  unfold ifTickAt; split <;> rfl

@[simp] theorem ifTurnAt_cfg (s : State) (k : Nat) : (ifTurnAt s k).cfg = s.cfg := by
  unfold ifTurnAt; split <;> simp

@[simp] theorem ifTurns_cfg (s : State) : (ifTurns s).cfg = s.cfg := by
  unfold ifTurns
  generalize ifOrder s.cfg = ks
  induction ks generalizing s with
  | nil => rfl
  | cons k ks ih => simp [ih]

@[simp] theorem ifTickAt_cpu (s : State) (k : Nat) : (ifTickAt s k).cpu = s.cpu := by
  unfold ifTickAt; split <;> rfl

@[simp] theorem ifTurnAt_cpu (s : State) (k : Nat) : (ifTurnAt s k).cpu = s.cpu := by
  unfold ifTurnAt; split <;> simp

@[simp] theorem ifTurns_cpu (s : State) : (ifTurns s).cpu = s.cpu := by
  unfold ifTurns
  generalize ifOrder s.cfg = ks
  induction ks generalizing s with
  | nil => rfl
  | cons k ks ih => simp [ih]

@[simp] theorem ifTickAt_mem (s : State) (k : Nat) : (ifTickAt s k).mem = s.mem := by
  unfold ifTickAt; split <;> rfl

@[simp] theorem ifTurnAt_mem (s : State) (k : Nat) : (ifTurnAt s k).mem = s.mem := by
  unfold ifTurnAt; split <;> simp

@[simp] theorem ifTurns_mem (s : State) : (ifTurns s).mem = s.mem := by
  unfold ifTurns
  generalize ifOrder s.cfg = ks
  induction ks generalizing s with
  | nil => rfl
  | cons k ks ih => simp [ih]

@[simp] theorem ifTickAt_banks (s : State) (k : Nat) : (ifTickAt s k).banks = s.banks := by
  unfold ifTickAt; split <;> rfl

@[simp] theorem ifTurnAt_banks (s : State) (k : Nat) : (ifTurnAt s k).banks = s.banks := by
  unfold ifTurnAt; split <;> simp

@[simp] theorem ifTurns_banks (s : State) : (ifTurns s).banks = s.banks := by
  unfold ifTurns
  generalize ifOrder s.cfg = ks
  induction ks generalizing s with
  | nil => rfl
  | cons k ks ih => simp [ih]

@[simp] theorem ifTickAt_vtg (s : State) (k : Nat) : (ifTickAt s k).vtg = s.vtg := by
  unfold ifTickAt; split <;> rfl

@[simp] theorem ifTurnAt_vtg (s : State) (k : Nat) : (ifTurnAt s k).vtg = s.vtg := by
  unfold ifTurnAt; split <;> simp

@[simp] theorem ifTurns_vtg (s : State) : (ifTurns s).vtg = s.vtg := by
  unfold ifTurns
  generalize ifOrder s.cfg = ks
  induction ks generalizing s with
  | nil => rfl
  | cons k ks ih => simp [ih]

@[simp] theorem ifTickAt_mixer (s : State) (k : Nat) : (ifTickAt s k).mixer = s.mixer := by
  unfold ifTickAt; split <;> rfl

@[simp] theorem ifTurnAt_mixer (s : State) (k : Nat) : (ifTurnAt s k).mixer = s.mixer := by
  unfold ifTurnAt; split <;> simp

@[simp] theorem ifTurns_mixer (s : State) : (ifTurns s).mixer = s.mixer := by
  unfold ifTurns
  generalize ifOrder s.cfg = ks
  induction ks generalizing s with
  | nil => rfl
  | cons k ks ih => simp [ih]

@[simp] theorem ifTickAt_fdc (s : State) (k : Nat) : (ifTickAt s k).fdc = s.fdc := by
  unfold ifTickAt; split <;> rfl

@[simp] theorem ifTurnAt_fdc (s : State) (k : Nat) : (ifTurnAt s k).fdc = s.fdc := by
  unfold ifTurnAt; split <;> simp

@[simp] theorem ifTurns_fdc (s : State) : (ifTurns s).fdc = s.fdc := by
  unfold ifTurns
  generalize ifOrder s.cfg = ks
  induction ks generalizing s with
  | nil => rfl
  | cons k ks ih => simp [ih]

@[simp] theorem ifTickAt_drives (s : State) (k : Nat) : (ifTickAt s k).drives = s.drives := by
  unfold ifTickAt; split <;> rfl

@[simp] theorem ifTurnAt_drives (s : State) (k : Nat) : (ifTurnAt s k).drives = s.drives := by
  unfold ifTurnAt; split <;> simp

@[simp] theorem ifTurns_drives (s : State) : (ifTurns s).drives = s.drives := by
  unfold ifTurns
  generalize ifOrder s.cfg = ks
  induction ks generalizing s with
  | nil => rfl
  | cons k ks ih => simp [ih]

@[simp] theorem ifTickAt_input (s : State) (k : Nat) : (ifTickAt s k).input = s.input := by
  unfold ifTickAt; split <;> rfl

@[simp] theorem ifTurnAt_input (s : State) (k : Nat) : (ifTurnAt s k).input = s.input := by
  unfold ifTurnAt; split <;> simp

@[simp] theorem ifTurns_input (s : State) : (ifTurns s).input = s.input := by
  unfold ifTurns
  generalize ifOrder s.cfg = ks
  induction ks generalizing s with
  | nil => rfl
  | cons k ks ih => simp [ih]

@[simp] theorem ifTickAt_bus (s : State) (k : Nat) : (ifTickAt s k).bus = s.bus := by
  unfold ifTickAt; split <;> rfl

@[simp] theorem ifTurnAt_bus (s : State) (k : Nat) : (ifTurnAt s k).bus = s.bus := by
  unfold ifTurnAt; split <;> simp

@[simp] theorem ifTurns_bus (s : State) : (ifTurns s).bus = s.bus := by
  unfold ifTurns
  generalize ifOrder s.cfg = ks
  induction ks generalizing s with
  | nil => rfl
  | cons k ks ih => simp [ih]

@[simp] theorem ifTickAt_sched (s : State) (k : Nat) : (ifTickAt s k).sched = s.sched := by
  unfold ifTickAt; split <;> rfl

@[simp] theorem ifTurnAt_sched (s : State) (k : Nat) : (ifTurnAt s k).sched = s.sched := by
  unfold ifTurnAt; split <;> simp

@[simp] theorem ifTurns_sched (s : State) : (ifTurns s).sched = s.sched := by
  unfold ifTurns
  generalize ifOrder s.cfg = ks
  induction ks generalizing s with
  | nil => rfl
  | cons k ks ih => simp [ih]

@[simp] theorem mixerUpdate_cfg (s : State) : (mixerUpdate s).cfg = s.cfg := by
  have fetches : ∀ (l : List Addr) (t : State), (l.foldl mixerStep t).cfg = t.cfg := by
    intro l
    induction l with
    | nil => intro t; rfl
    | cons a l ih => intro t; rw [List.foldl_cons, ih]; rfl
  have flush : ∀ t : State, (mixerFlush t).cfg = t.cfg := by intro t; unfold mixerFlush; split <;> rfl
  have frame : (mixerFrame s).cfg = s.cfg := by unfold mixerFrame; simp only; split <;> simp [flush]
  have row : ∀ t : State, (mixerRow t).cfg = t.cfg := by intro t; unfold mixerRow; split <;> simp [flush]
  unfold mixerUpdate mixerFetches
  split
  · rw [fetches]; exact (row _).trans frame
  · exact (row _).trans frame

@[simp] theorem mixerUpdate_cpu (s : State) : (mixerUpdate s).cpu = s.cpu := by
  have fetches : ∀ (l : List Addr) (t : State), (l.foldl mixerStep t).cpu = t.cpu := by
    intro l
    induction l with
    | nil => intro t; rfl
    | cons a l ih => intro t; rw [List.foldl_cons, ih]; rfl
  have flush : ∀ t : State, (mixerFlush t).cpu = t.cpu := by intro t; unfold mixerFlush; split <;> rfl
  have frame : (mixerFrame s).cpu = s.cpu := by unfold mixerFrame; simp only; split <;> simp [flush]
  have row : ∀ t : State, (mixerRow t).cpu = t.cpu := by intro t; unfold mixerRow; split <;> simp [flush]
  unfold mixerUpdate mixerFetches
  split
  · rw [fetches]; exact (row _).trans frame
  · exact (row _).trans frame

@[simp] theorem mixerUpdate_mem (s : State) : (mixerUpdate s).mem = s.mem := by
  have fetches : ∀ (l : List Addr) (t : State), (l.foldl mixerStep t).mem = t.mem := by
    intro l
    induction l with
    | nil => intro t; rfl
    | cons a l ih => intro t; rw [List.foldl_cons, ih]; rfl
  have flush : ∀ t : State, (mixerFlush t).mem = t.mem := by intro t; unfold mixerFlush; split <;> rfl
  have frame : (mixerFrame s).mem = s.mem := by unfold mixerFrame; simp only; split <;> simp [flush]
  have row : ∀ t : State, (mixerRow t).mem = t.mem := by intro t; unfold mixerRow; split <;> simp [flush]
  unfold mixerUpdate mixerFetches
  split
  · rw [fetches]; exact (row _).trans frame
  · exact (row _).trans frame

@[simp] theorem mixerUpdate_banks (s : State) : (mixerUpdate s).banks = s.banks := by
  have fetches : ∀ (l : List Addr) (t : State), (l.foldl mixerStep t).banks = t.banks := by
    intro l
    induction l with
    | nil => intro t; rfl
    | cons a l ih => intro t; rw [List.foldl_cons, ih]; rfl
  have flush : ∀ t : State, (mixerFlush t).banks = t.banks := by intro t; unfold mixerFlush; split <;> rfl
  have frame : (mixerFrame s).banks = s.banks := by unfold mixerFrame; simp only; split <;> simp [flush]
  have row : ∀ t : State, (mixerRow t).banks = t.banks := by intro t; unfold mixerRow; split <;> simp [flush]
  unfold mixerUpdate mixerFetches
  split
  · rw [fetches]; exact (row _).trans frame
  · exact (row _).trans frame

@[simp] theorem mixerUpdate_vtg (s : State) : (mixerUpdate s).vtg = s.vtg := by
  have fetches : ∀ (l : List Addr) (t : State), (l.foldl mixerStep t).vtg = t.vtg := by
    intro l
    induction l with
    | nil => intro t; rfl
    | cons a l ih => intro t; rw [List.foldl_cons, ih]; rfl
  have flush : ∀ t : State, (mixerFlush t).vtg = t.vtg := by intro t; unfold mixerFlush; split <;> rfl
  have frame : (mixerFrame s).vtg = s.vtg := by unfold mixerFrame; simp only; split <;> simp [flush]
  have row : ∀ t : State, (mixerRow t).vtg = t.vtg := by intro t; unfold mixerRow; split <;> simp [flush]
  unfold mixerUpdate mixerFetches
  split
  · rw [fetches]; exact (row _).trans frame
  · exact (row _).trans frame

@[simp] theorem mixerUpdate_ifChips (s : State) : (mixerUpdate s).ifChips = s.ifChips := by
  have fetches : ∀ (l : List Addr) (t : State), (l.foldl mixerStep t).ifChips = t.ifChips := by
    intro l
    induction l with
    | nil => intro t; rfl
    | cons a l ih => intro t; rw [List.foldl_cons, ih]; rfl
  have flush : ∀ t : State, (mixerFlush t).ifChips = t.ifChips := by intro t; unfold mixerFlush; split <;> rfl
  have frame : (mixerFrame s).ifChips = s.ifChips := by unfold mixerFrame; simp only; split <;> simp [flush]
  have row : ∀ t : State, (mixerRow t).ifChips = t.ifChips := by intro t; unfold mixerRow; split <;> simp [flush]
  unfold mixerUpdate mixerFetches
  split
  · rw [fetches]; exact (row _).trans frame
  · exact (row _).trans frame

@[simp] theorem mixerUpdate_fdc (s : State) : (mixerUpdate s).fdc = s.fdc := by
  have fetches : ∀ (l : List Addr) (t : State), (l.foldl mixerStep t).fdc = t.fdc := by
    intro l
    induction l with
    | nil => intro t; rfl
    | cons a l ih => intro t; rw [List.foldl_cons, ih]; rfl
  have flush : ∀ t : State, (mixerFlush t).fdc = t.fdc := by intro t; unfold mixerFlush; split <;> rfl
  have frame : (mixerFrame s).fdc = s.fdc := by unfold mixerFrame; simp only; split <;> simp [flush]
  have row : ∀ t : State, (mixerRow t).fdc = t.fdc := by intro t; unfold mixerRow; split <;> simp [flush]
  unfold mixerUpdate mixerFetches
  split
  · rw [fetches]; exact (row _).trans frame
  · exact (row _).trans frame

@[simp] theorem mixerUpdate_drives (s : State) : (mixerUpdate s).drives = s.drives := by
  have fetches : ∀ (l : List Addr) (t : State), (l.foldl mixerStep t).drives = t.drives := by
    intro l
    induction l with
    | nil => intro t; rfl
    | cons a l ih => intro t; rw [List.foldl_cons, ih]; rfl
  have flush : ∀ t : State, (mixerFlush t).drives = t.drives := by intro t; unfold mixerFlush; split <;> rfl
  have frame : (mixerFrame s).drives = s.drives := by unfold mixerFrame; simp only; split <;> simp [flush]
  have row : ∀ t : State, (mixerRow t).drives = t.drives := by intro t; unfold mixerRow; split <;> simp [flush]
  unfold mixerUpdate mixerFetches
  split
  · rw [fetches]; exact (row _).trans frame
  · exact (row _).trans frame

@[simp] theorem mixerUpdate_input (s : State) : (mixerUpdate s).input = s.input := by
  have fetches : ∀ (l : List Addr) (t : State), (l.foldl mixerStep t).input = t.input := by
    intro l
    induction l with
    | nil => intro t; rfl
    | cons a l ih => intro t; rw [List.foldl_cons, ih]; rfl
  have flush : ∀ t : State, (mixerFlush t).input = t.input := by intro t; unfold mixerFlush; split <;> rfl
  have frame : (mixerFrame s).input = s.input := by unfold mixerFrame; simp only; split <;> simp [flush]
  have row : ∀ t : State, (mixerRow t).input = t.input := by intro t; unfold mixerRow; split <;> simp [flush]
  unfold mixerUpdate mixerFetches
  split
  · rw [fetches]; exact (row _).trans frame
  · exact (row _).trans frame

@[simp] theorem mixerUpdate_sched_tickCount (s : State) : (mixerUpdate s).sched.tickCount = s.sched.tickCount := by
  have fetches : ∀ (l : List Addr) (t : State), (l.foldl mixerStep t).sched.tickCount = t.sched.tickCount := by
    intro l
    induction l with
    | nil => intro t; rfl
    | cons a l ih => intro t; rw [List.foldl_cons, ih]; rfl
  have flush : ∀ t : State, (mixerFlush t).sched.tickCount = t.sched.tickCount := by intro t; unfold mixerFlush; split <;> rfl
  have frame : (mixerFrame s).sched.tickCount = s.sched.tickCount := by unfold mixerFrame; simp only; split <;> simp [flush]
  have row : ∀ t : State, (mixerRow t).sched.tickCount = t.sched.tickCount := by intro t; unfold mixerRow; split <;> simp [flush]
  unfold mixerUpdate mixerFetches
  split
  · rw [fetches]; exact (row _).trans frame
  · exact (row _).trans frame

@[simp] theorem mixerUpdate_sched_linesOut (s : State) : (mixerUpdate s).sched.linesOut = s.sched.linesOut := by
  have fetches : ∀ (l : List Addr) (t : State), (l.foldl mixerStep t).sched.linesOut = t.sched.linesOut := by
    intro l
    induction l with
    | nil => intro t; rfl
    | cons a l ih => intro t; rw [List.foldl_cons, ih]; rfl
  have flush : ∀ t : State, (mixerFlush t).sched.linesOut = t.sched.linesOut := by intro t; unfold mixerFlush; split <;> rfl
  have frame : (mixerFrame s).sched.linesOut = s.sched.linesOut := by unfold mixerFrame; simp only; split <;> simp [flush]
  have row : ∀ t : State, (mixerRow t).sched.linesOut = t.sched.linesOut := by intro t; unfold mixerRow; split <;> simp [flush]
  unfold mixerUpdate mixerFetches
  split
  · rw [fetches]; exact (row _).trans frame
  · exact (row _).trans frame

@[simp] theorem mixerUpdate_sched_envLines (s : State) : (mixerUpdate s).sched.envLines = s.sched.envLines := by
  have fetches : ∀ (l : List Addr) (t : State), (l.foldl mixerStep t).sched.envLines = t.sched.envLines := by
    intro l
    induction l with
    | nil => intro t; rfl
    | cons a l ih => intro t; rw [List.foldl_cons, ih]; rfl
  have flush : ∀ t : State, (mixerFlush t).sched.envLines = t.sched.envLines := by intro t; unfold mixerFlush; split <;> rfl
  have frame : (mixerFrame s).sched.envLines = s.sched.envLines := by unfold mixerFrame; simp only; split <;> simp [flush]
  have row : ∀ t : State, (mixerRow t).sched.envLines = t.sched.envLines := by intro t; unfold mixerRow; split <;> simp [flush]
  unfold mixerUpdate mixerFetches
  split
  · rw [fetches]; exact (row _).trans frame
  · exact (row _).trans frame

/-- The Mixer's transactions are not the core's (rule R62). -/
@[simp] theorem mixerUpdate_coreTrace (s : State) : coreTrace (mixerUpdate s) = coreTrace s := by
  have fetches : ∀ (l : List Addr) (t : State), coreTrace (l.foldl mixerStep t) = coreTrace t := by
    intro l
    induction l with
    | nil => intro t; rfl
    | cons a l ih => intro t; rw [List.foldl_cons, ih]; rfl
  have flush : ∀ t : State, coreTrace (mixerFlush t) = coreTrace t := by
    intro t; unfold mixerFlush; split <;> rfl
  have frame : coreTrace (mixerFrame s) = coreTrace s := by
    have h : ∀ t : State, coreTrace { t with output := .frameBoundary :: t.output } = coreTrace t := fun _ => rfl
    unfold mixerFrame
    simp only
    split
    · exact (h (mixerFlush s)).trans (flush s)
    · rfl
  have row : ∀ t : State, coreTrace (mixerRow t) = coreTrace t := by
    intro t; unfold mixerRow; split
    · exact flush t
    · rfl
  unfold mixerUpdate mixerFetches
  split
  · rw [fetches]; exact (row _).trans frame
  · exact (row _).trans frame

theorem coreTrace_congr {s t : State} (h : s.bus = t.bus) : coreTrace s = coreTrace t := by
  simp [coreTrace, h]

/-! ## The chips' parts of a tick -/

@[simp] theorem chipTurn_cfg (s : State) (k : Chip) : (chipTurn s k).cfg = s.cfg := by
  cases k <;> simp only [chipTurn] <;> try split
  all_goals simp

@[simp] theorem chipTurns_cfg (ks : List Chip) (s : State) : (chipTurns ks s).cfg = s.cfg := by
  induction ks generalizing s with
  | nil => rfl
  | cons k ks ih => exact (ih (chipTurn s k)).trans (chipTurn_cfg s k)

@[simp] theorem beforeCore_cfg (s : State) : (beforeCore s).cfg = s.cfg :=
  chipTurns_cfg _ s

@[simp] theorem chipTurn_cpu (s : State) (k : Chip) : (chipTurn s k).cpu = s.cpu := by
  cases k <;> simp only [chipTurn] <;> try split
  all_goals simp

@[simp] theorem chipTurns_cpu (ks : List Chip) (s : State) : (chipTurns ks s).cpu = s.cpu := by
  induction ks generalizing s with
  | nil => rfl
  | cons k ks ih => exact (ih (chipTurn s k)).trans (chipTurn_cpu s k)

@[simp] theorem beforeCore_cpu (s : State) : (beforeCore s).cpu = s.cpu :=
  chipTurns_cpu _ s

@[simp] theorem chipTurn_mem (s : State) (k : Chip) : (chipTurn s k).mem = s.mem := by
  cases k <;> simp only [chipTurn] <;> try split
  all_goals simp

@[simp] theorem chipTurns_mem (ks : List Chip) (s : State) : (chipTurns ks s).mem = s.mem := by
  induction ks generalizing s with
  | nil => rfl
  | cons k ks ih => exact (ih (chipTurn s k)).trans (chipTurn_mem s k)

@[simp] theorem beforeCore_mem (s : State) : (beforeCore s).mem = s.mem :=
  chipTurns_mem _ s

@[simp] theorem chipTurn_banks (s : State) (k : Chip) : (chipTurn s k).banks = s.banks := by
  cases k <;> simp only [chipTurn] <;> try split
  all_goals simp

@[simp] theorem chipTurns_banks (ks : List Chip) (s : State) : (chipTurns ks s).banks = s.banks := by
  induction ks generalizing s with
  | nil => rfl
  | cons k ks ih => exact (ih (chipTurn s k)).trans (chipTurn_banks s k)

@[simp] theorem beforeCore_banks (s : State) : (beforeCore s).banks = s.banks :=
  chipTurns_banks _ s

@[simp] theorem chipTurn_input (s : State) (k : Chip) : (chipTurn s k).input = s.input := by
  cases k <;> simp only [chipTurn] <;> try split
  all_goals simp

@[simp] theorem chipTurns_input (ks : List Chip) (s : State) : (chipTurns ks s).input = s.input := by
  induction ks generalizing s with
  | nil => rfl
  | cons k ks ih => exact (ih (chipTurn s k)).trans (chipTurn_input s k)

@[simp] theorem beforeCore_input (s : State) : (beforeCore s).input = s.input :=
  chipTurns_input _ s

@[simp] theorem chipTurn_sched_tickCount (s : State) (k : Chip) : (chipTurn s k).sched.tickCount = s.sched.tickCount := by
  cases k <;> simp only [chipTurn] <;> try split
  all_goals simp

@[simp] theorem chipTurns_sched_tickCount (ks : List Chip) (s : State) : (chipTurns ks s).sched.tickCount = s.sched.tickCount := by
  induction ks generalizing s with
  | nil => rfl
  | cons k ks ih => exact (ih (chipTurn s k)).trans (chipTurn_sched_tickCount s k)

@[simp] theorem beforeCore_sched_tickCount (s : State) : (beforeCore s).sched.tickCount = s.sched.tickCount :=
  chipTurns_sched_tickCount _ s

@[simp] theorem chipTurn_sched_linesOut (s : State) (k : Chip) : (chipTurn s k).sched.linesOut = s.sched.linesOut := by
  cases k <;> simp only [chipTurn] <;> try split
  all_goals simp

@[simp] theorem chipTurns_sched_linesOut (ks : List Chip) (s : State) : (chipTurns ks s).sched.linesOut = s.sched.linesOut := by
  induction ks generalizing s with
  | nil => rfl
  | cons k ks ih => exact (ih (chipTurn s k)).trans (chipTurn_sched_linesOut s k)

@[simp] theorem beforeCore_sched_linesOut (s : State) : (beforeCore s).sched.linesOut = s.sched.linesOut :=
  chipTurns_sched_linesOut _ s

@[simp] theorem chipTurn_sched_envLines (s : State) (k : Chip) : (chipTurn s k).sched.envLines = s.sched.envLines := by
  cases k <;> simp only [chipTurn] <;> try split
  all_goals simp

@[simp] theorem chipTurns_sched_envLines (ks : List Chip) (s : State) : (chipTurns ks s).sched.envLines = s.sched.envLines := by
  induction ks generalizing s with
  | nil => rfl
  | cons k ks ih => exact (ih (chipTurn s k)).trans (chipTurn_sched_envLines s k)

@[simp] theorem beforeCore_sched_envLines (s : State) : (beforeCore s).sched.envLines = s.sched.envLines :=
  chipTurns_sched_envLines _ s

@[simp] theorem afterCore_cfg (s : State) : (afterCore s).cfg = s.cfg :=
  chipTurns_cfg _ s

@[simp] theorem afterCore_cpu (s : State) : (afterCore s).cpu = s.cpu :=
  chipTurns_cpu _ s

@[simp] theorem afterCore_mem (s : State) : (afterCore s).mem = s.mem :=
  chipTurns_mem _ s

@[simp] theorem afterCore_banks (s : State) : (afterCore s).banks = s.banks :=
  chipTurns_banks _ s

@[simp] theorem afterCore_input (s : State) : (afterCore s).input = s.input :=
  chipTurns_input _ s

@[simp] theorem afterCore_sched_tickCount (s : State) : (afterCore s).sched.tickCount = s.sched.tickCount :=
  chipTurns_sched_tickCount _ s

@[simp] theorem afterCore_sched_envLines (s : State) : (afterCore s).sched.envLines = s.sched.envLines :=
  chipTurns_sched_envLines _ s

/-- A tick ends with the line bitset that the drivers write (rule R72). -/
@[simp] theorem afterCore_linesOut (s : State) : (afterCore s).sched.linesOut = drivenLines (afterCore s) := rfl

@[simp] theorem chipTurn_coreTrace (s : State) (k : Chip) : coreTrace (chipTurn s k) = coreTrace s := by
  cases k <;> simp only [chipTurn]
  · split <;> rfl
  · split
    · exact mixerUpdate_coreTrace s
    · rfl
  · exact coreTrace_congr (by simp)
  · split <;> rfl

@[simp] theorem chipTurns_coreTrace (ks : List Chip) (s : State) : coreTrace (chipTurns ks s) = coreTrace s := by
  induction ks generalizing s with
  | nil => rfl
  | cons k ks ih => exact (ih (chipTurn s k)).trans (chipTurn_coreTrace s k)

@[simp] theorem beforeCore_coreTrace (s : State) : coreTrace (beforeCore s) = coreTrace s :=
  chipTurns_coreTrace _ s

@[simp] theorem afterCore_coreTrace (s : State) : coreTrace (afterCore s) = coreTrace s :=
  chipTurns_coreTrace _ s

@[simp] theorem boundary_coreTrace (s : State) : coreTrace (boundary s) = coreTrace s :=
  coreTrace_congr (by simp)

/-! ## The core's turns -/

@[simp] theorem idleTicks_cfg (n : Nat) (s : State) : (idleTicks n s).cfg = s.cfg := by
  induction n generalizing s with
  | zero => rfl
  | succ n ih => rw [idleTicks, ih]; simp [tickWith]

@[simp] theorem turnStart_cfg (s : State) : (turnStart s).cfg = s.cfg :=
  idleTicks_cfg _ s

@[simp] theorem coreView_cfg (s : State) : (coreView s).cfg = s.cfg := by
  simp [coreView]

@[simp] theorem idleTicks_mem (n : Nat) (s : State) : (idleTicks n s).mem = s.mem := by
  induction n generalizing s with
  | zero => rfl
  | succ n ih => rw [idleTicks, ih]; simp [tickWith]

@[simp] theorem turnStart_mem (s : State) : (turnStart s).mem = s.mem :=
  idleTicks_mem _ s

@[simp] theorem coreView_mem (s : State) : (coreView s).mem = s.mem := by
  simp [coreView]

@[simp] theorem idleTicks_banks (n : Nat) (s : State) : (idleTicks n s).banks = s.banks := by
  induction n generalizing s with
  | zero => rfl
  | succ n ih => rw [idleTicks, ih]; simp [tickWith]

@[simp] theorem turnStart_banks (s : State) : (turnStart s).banks = s.banks :=
  idleTicks_banks _ s

@[simp] theorem coreView_banks (s : State) : (coreView s).banks = s.banks := by
  simp [coreView]

@[simp] theorem idleTicks_cpu_regs (n : Nat) (s : State) : (idleTicks n s).cpu.regs = s.cpu.regs := by
  induction n generalizing s with
  | zero => rfl
  | succ n ih => rw [idleTicks, ih]; simp [tickWith]

@[simp] theorem turnStart_cpu_regs (s : State) : (turnStart s).cpu.regs = s.cpu.regs :=
  idleTicks_cpu_regs _ s

@[simp] theorem coreView_cpu_regs (s : State) : (coreView s).cpu.regs = s.cpu.regs := by
  simp [coreView]

@[simp] theorem idleTicks_cpu_pc (n : Nat) (s : State) : (idleTicks n s).cpu.pc = s.cpu.pc := by
  induction n generalizing s with
  | zero => rfl
  | succ n ih => rw [idleTicks, ih]; simp [tickWith]

@[simp] theorem turnStart_cpu_pc (s : State) : (turnStart s).cpu.pc = s.cpu.pc :=
  idleTicks_cpu_pc _ s

@[simp] theorem coreView_cpu_pc (s : State) : (coreView s).cpu.pc = s.cpu.pc := by
  simp [coreView]

@[simp] theorem idleTicks_cpu_phase (n : Nat) (s : State) : (idleTicks n s).cpu.phase = s.cpu.phase := by
  induction n generalizing s with
  | zero => rfl
  | succ n ih => rw [idleTicks, ih]; simp [tickWith]

@[simp] theorem turnStart_cpu_phase (s : State) : (turnStart s).cpu.phase = s.cpu.phase :=
  idleTicks_cpu_phase _ s

@[simp] theorem coreView_cpu_phase (s : State) : (coreView s).cpu.phase = s.cpu.phase := by
  simp [coreView]

@[simp] theorem idleTicks_cpu_latch (n : Nat) (s : State) : (idleTicks n s).cpu.latch = s.cpu.latch := by
  induction n generalizing s with
  | zero => rfl
  | succ n ih => rw [idleTicks, ih]; simp [tickWith]

@[simp] theorem turnStart_cpu_latch (s : State) : (turnStart s).cpu.latch = s.cpu.latch :=
  idleTicks_cpu_latch _ s

@[simp] theorem coreView_cpu_latch (s : State) : (coreView s).cpu.latch = s.cpu.latch := by
  simp [coreView]

@[simp] theorem idleTicks_cpu_seqKind (n : Nat) (s : State) : (idleTicks n s).cpu.seqKind = s.cpu.seqKind := by
  induction n generalizing s with
  | zero => rfl
  | succ n ih => rw [idleTicks, ih]; simp [tickWith]

@[simp] theorem turnStart_cpu_seqKind (s : State) : (turnStart s).cpu.seqKind = s.cpu.seqKind :=
  idleTicks_cpu_seqKind _ s

@[simp] theorem coreView_cpu_seqKind (s : State) : (coreView s).cpu.seqKind = s.cpu.seqKind := by
  simp [coreView]

@[simp] theorem idleTicks_cpu_illegal (n : Nat) (s : State) : (idleTicks n s).cpu.illegal = s.cpu.illegal := by
  induction n generalizing s with
  | zero => rfl
  | succ n ih => rw [idleTicks, ih]; simp [tickWith]

@[simp] theorem turnStart_cpu_illegal (s : State) : (turnStart s).cpu.illegal = s.cpu.illegal :=
  idleTicks_cpu_illegal _ s

@[simp] theorem coreView_cpu_illegal (s : State) : (coreView s).cpu.illegal = s.cpu.illegal := by
  simp [coreView]

@[simp] theorem idleTicks_tick (n : Nat) (s : State) :
    (idleTicks n s).sched.tickCount = s.sched.tickCount + n := by
  induction n generalizing s with
  | zero => rfl
  | succ n ih => rw [idleTicks, ih]; simp [tickWith]; omega

@[simp] theorem turnStart_tick (s : State) :
    (turnStart s).sched.tickCount = s.sched.tickCount + coreIdle s.cfg s.sched.tickCount :=
  idleTicks_tick _ s

@[simp] theorem coreView_tick (s : State) : (coreView s).sched.tickCount = nextTurn s.cfg s.sched.tickCount := by
  simp [coreView, nextTurn]

@[simp] theorem idleTicks_coreTrace (n : Nat) (s : State) : coreTrace (idleTicks n s) = coreTrace s := by
  induction n generalizing s with
  | zero => rfl
  | succ n ih => rw [idleTicks, ih]; simp [tickWith]

@[simp] theorem turnStart_coreTrace (s : State) : coreTrace (turnStart s) = coreTrace s :=
  idleTicks_coreTrace _ s

@[simp] theorem coreView_coreTrace (s : State) : coreTrace (coreView s) = coreTrace s := by
  simp [coreView]

/-- With the divider 1 the core idles in no tick (rule R71). -/
theorem turnStart_undivided {s : State} (h : s.cfg.clockRates.core = 1) : turnStart s = s := by
  simp [turnStart, coreIdle, h, idleTicks]

theorem turnWith_coreView (act : State → State) (s : State) : turnWith act s = afterCore (act (coreView s)) := rfl

/-! ## One tick -/

@[simp] theorem coreTrace_read (s : State) (a : Addr) :
    coreTrace (busRead a s).2 = coreTrace s ++ [rd a (busRead a s).1] := by
  simp [coreTrace, busRead, rd]

@[simp] theorem coreTrace_write (s : State) (a : Addr) (v : Byte) :
    coreTrace (busWrite a v s) = coreTrace s ++ [wr a v] := by
  simp [coreTrace, busWrite, wr]

/-- One turn of the core with a row of a pattern, as a whole: `b` is the byte of its one transaction, which reads
what memory holds or writes what the row stores; the core afterwards is the row's effect on the core
before, whose pending flags the boundary has routed. -/
theorem turn_row (m : Micro) (next : Phase) (c : Cycle) (s : State) :
    let u : Cpu := (coreView s).cpu
    let t := turnWith (cycleAct m next c) s
    ∃ b, (∀ v, cycleStored m c u = some v → b = v) ∧
      t.cpu = cycleCommit m next c b u ∧
      coreTrace t = coreTrace s ++ [⟨cycleAddr s.cfg c u, (cycleStored m c u).isSome, b, .core⟩] ∧
      replays s.cfg s.mem s.banks [⟨cycleAddr s.cfg c u, (cycleStored m c u).isSome, b, .core⟩] t.mem t.banks ∧
      t.cfg = s.cfg ∧ t.sched.tickCount = nextTurn s.cfg s.sched.tickCount := by
  intro u t
  have hct : ∀ x : State, ∀ y : Cpu, coreTrace { x with cpu := y } = coreTrace x := fun _ _ => rfl
  have hcfg : (coreView s).cfg = s.cfg := coreView_cfg s
  cases hst : cycleStored m c u with
  | none =>
    have hact : cycleAct m next c (coreView s) =
        { (busRead (cycleAddr s.cfg c u) (coreView s)).2 with
          cpu := cycleCommit m next c (busRead (cycleAddr s.cfg c u) (coreView s)).1
            (busRead (cycleAddr s.cfg c u) (coreView s)).2.cpu } := by
      unfold cycleAct; rw [hst, hcfg]
    have ht : t = afterCore (cycleAct m next c (coreView s)) := rfl
    rw [hact] at ht
    refine ⟨(busRead (cycleAddr s.cfg c u) (coreView s)).1, by simp, ?_, ?_, ?_, ?_, ?_⟩
    · rw [ht]; simp [busRead, u]
    · rw [ht, afterCore_coreTrace, hct]; simp [rd]
    · have h := resolveRead_answers (cycleAddr s.cfg c u) (coreView s)
      simp only [coreView_cfg, coreView_mem, coreView_banks] at h
      rw [ht]; simpa [replays, busRead] using h
    · rw [ht]; simp [busRead]
    · rw [ht]; simp [busRead, State.logBus]
  | some v =>
    have hact : cycleAct m next c (coreView s) =
        { busWrite (cycleAddr s.cfg c u) v (coreView s) with
          cpu := cycleCommit m next c v (busWrite (cycleAddr s.cfg c u) v (coreView s)).cpu } := by
      unfold cycleAct; rw [hst, hcfg]
    have ht : t = afterCore (cycleAct m next c (coreView s)) := rfl
    rw [hact] at ht
    refine ⟨v, by simp, ?_, ?_, ?_, ?_, ?_⟩
    · rw [ht]; simp [busWrite, u]
    · rw [ht, afterCore_coreTrace, hct]; simp [wr]
    · rw [ht]; simp [replays, busWrite]
    · rw [ht]; simp [busWrite]
    · rw [ht]; simp [busWrite, State.logBus]

/-- Tick T1 as a whole (rule R131). -/
theorem turn_fetch (finish : Cpu → Cpu) (s : State) :
    let u : Cpu := (coreView s).cpu
    let t := turnWith (fetchWith finish) s
    ∃ b, t.cpu = finish { u with latch := { u.latch with ir := b }, pc := u.pc + 1#16 } ∧
      b = (busRead (coreView s).cpu.pc (coreView s)).1 ∧
      coreTrace t = coreTrace s ++ [rd s.cpu.pc b] ∧ answers s.cfg s.mem s.banks s.cpu.pc b ∧
      t.mem = s.mem ∧ t.banks = s.banks ∧ t.cfg = s.cfg ∧ t.sched.tickCount = nextTurn s.cfg s.sched.tickCount := by
  intro u t
  have hct : ∀ x : State, ∀ y : Cpu, coreTrace { x with cpu := y } = coreTrace x := fun _ _ => rfl
  have hpc : (coreView s).cpu.pc = s.cpu.pc := by simp
  have ht : t = afterCore (fetchWith finish (coreView s)) := rfl
  refine ⟨(busRead (coreView s).cpu.pc (coreView s)).1, ?_, rfl, ?_, ?_, ?_, ?_, ?_, ?_⟩
  · rw [ht]; simp [fetchWith, busRead, u]
  · rw [ht, afterCore_coreTrace]; unfold fetchWith; simp only [hct, coreTrace_read, coreView_coreTrace, hpc]
  · have h := resolveRead_answers (coreView s).cpu.pc (coreView s)
    simpa only [coreView_cfg, coreView_mem, coreView_banks, hpc, busRead] using h
  · rw [ht]; simp [fetchWith, busRead]
  · rw [ht]; simp [fetchWith, busRead]
  · rw [ht]; simp [fetchWith, busRead]
  · rw [ht]; simp [fetchWith, busRead, State.logBus]

end Sys2Proof.Machine
end

