-- ==== Sys2Proof/Laws/Input.lean ====
section
/-! SUPPORT. Sys2Proof/Laws/Input.lean: the tick of rule R13 takes the configuration and what the outside does as
inputs: it does not read those that stand in the state, and the machine's own ticks are ticks on explicit inputs. -/

namespace Sys2Proof.Machine

/-! ## The script is not read between two boundaries -/

@[simp] theorem withInput_cfg (s : State) (l : List TickInput) : (s.withInput l).cfg = s.cfg := rfl
@[simp] theorem withInput_cpu (s : State) (l : List TickInput) : (s.withInput l).cpu = s.cpu := rfl
@[simp] theorem withInput_sched (s : State) (l : List TickInput) : (s.withInput l).sched = s.sched := rfl
@[simp] theorem withInput_mem (s : State) (l : List TickInput) : (s.withInput l).mem = s.mem := rfl
@[simp] theorem withInput_banks (s : State) (l : List TickInput) : (s.withInput l).banks = s.banks := rfl
@[simp] theorem withInput_vtg (s : State) (l : List TickInput) : (s.withInput l).vtg = s.vtg := rfl
@[simp] theorem withInput_mixer (s : State) (l : List TickInput) : (s.withInput l).mixer = s.mixer := rfl
@[simp] theorem withInput_ifChips (s : State) (l : List TickInput) : (s.withInput l).ifChips = s.ifChips := rfl
@[simp] theorem withInput_fdc (s : State) (l : List TickInput) : (s.withInput l).fdc = s.fdc := rfl
@[simp] theorem withInput_drives (s : State) (l : List TickInput) : (s.withInput l).drives = s.drives := rfl
@[simp] theorem withInput_input (s : State) (l : List TickInput) : (s.withInput l).input = l := rfl
@[simp] theorem withInput_output (s : State) (l : List TickInput) : (s.withInput l).output = s.output := rfl
@[simp] theorem withInput_bus (s : State) (l : List TickInput) : (s.withInput l).bus = s.bus := rfl

theorem resolveRead_withInput (a : Addr) (s : State) (l : List TickInput) :
    resolveRead a (s.withInput l) = ((resolveRead a s).1, (resolveRead a s).2.withInput l) := by
  unfold resolveRead
  simp only [withInput_cfg, withInput_ifChips]
  repeat' split
  all_goals rfl

theorem resolveWrite_withInput (a : Addr) (v : Byte) (s : State) (l : List TickInput) :
    resolveWrite a v (s.withInput l) = (resolveWrite a v s).withInput l := by
  unfold resolveWrite
  simp only [withInput_cfg, withInput_ifChips]
  repeat' split
  all_goals rfl

theorem busRead_withInput (a : Addr) (s : State) (l : List TickInput) :
    busRead a (s.withInput l) = ((busRead a s).1, (busRead a s).2.withInput l) := by
  simp only [busRead, resolveRead_withInput]
  rfl

theorem busWrite_withInput (a : Addr) (v : Byte) (s : State) (l : List TickInput) :
    busWrite a v (s.withInput l) = (busWrite a v s).withInput l := by
  simp only [busWrite, resolveWrite_withInput]
  rfl

theorem queueEvents_withInput (es : List (Nat × IfEvent)) (s : State) (l : List TickInput) :
    es.foldl queueEvent (s.withInput l) = (es.foldl queueEvent s).withInput l := by
  induction es generalizing s with
  | nil => rfl
  | cons e es ih =>
    have h : queueEvent (s.withInput l) e = (queueEvent s e).withInput l := by
      unfold queueEvent
      simp only [withInput_ifChips]
      split <;> rfl
    rw [List.foldl_cons, h, ih, List.foldl_cons]

theorem boundaryOn_withInput (i : TickInput) (s : State) (l : List TickInput) :
    boundaryOn i (s.withInput l) = (boundaryOn i s).withInput l := by
  have h : boundaryLines i.lines (s.withInput l) = (boundaryLines i.lines s).withInput l := rfl
  have w : wireLevels (s.withInput l) = wireLevels s := by
    unfold wireLevels
    refine List.map_congr_left fun x _ => ?_
    cases x.signal <;> rfl
  simp only [boundaryOn, h, w, queueEvents_withInput]
  rfl

theorem ifTurns_withInput (s : State) (l : List TickInput) : ifTurns (s.withInput l) = (ifTurns s).withInput l := by
  have turn : ∀ (t : State) (k : Nat), ifTurnAt (t.withInput l) k = (ifTurnAt t k).withInput l := by
    intro t k
    have tick : ifTickAt (t.withInput l) k = (ifTickAt t k).withInput l := by
      unfold ifTickAt
      rw [withInput_ifChips]
      cases t.ifChips[k]? <;> rfl
    simp only [ifTurnAt, withInput_cfg, withInput_sched, tick]
    cases acts (ifDivider t.cfg k) t.sched.tickCount <;> rfl
  unfold ifTurns
  rw [withInput_cfg]
  generalize ifOrder s.cfg = ks
  induction ks generalizing s with
  | nil => rfl
  | cons k ks ih => rw [List.foldl_cons, turn, ih, List.foldl_cons]

theorem mixerUpdate_withInput (s : State) (l : List TickInput) :
    mixerUpdate (s.withInput l) = (mixerUpdate s).withInput l := by
  have flush : ∀ t : State, mixerFlush (t.withInput l) = (mixerFlush t).withInput l := by
    intro t
    by_cases h : t.mixer.rowBuf = [] <;> simp [mixerFlush, h]
    rfl
  have frame : mixerFrame (s.withInput l) = (mixerFrame s).withInput l := by
    unfold mixerFrame
    simp only [withInput_vtg, withInput_mixer, flush]
    cases s.vtg.vsync && !s.mixer.vsyncPrev <;> rfl
  have row : ∀ t : State, mixerRow (t.withInput l) = (mixerRow t).withInput l := by
    intro t
    simp only [mixerRow, withInput_vtg, flush]
    cases t.vtg.lineStart || !t.vtg.displayEnable <;> rfl
  have fetches : ∀ t : State, mixerFetches (t.withInput l) = (mixerFetches t).withInput l := by
    intro t
    simp only [mixerFetches, withInput_vtg, withInput_cfg, withInput_mixer]
    by_cases h : t.vtg.displayEnable = true <;> simp only [h, if_true]
    · clear h
      generalize videoAddrs _ _ _ _ _ = as
      induction as generalizing t with
      | nil => rfl
      | cons a as ih => exact ih (mixerStep t a)
    · rfl
  have teletext : ∀ t : State, mixerTeletext (t.withInput l) = (mixerTeletext t).withInput l := fun _ => rfl
  simp only [mixerUpdate, frame, row, teletext, fetches]

theorem chipTurns_withInput (ks : List Chip) (s : State) (l : List TickInput) :
    chipTurns ks (s.withInput l) = (chipTurns ks s).withInput l := by
  have turn : ∀ (t : State) (k : Chip), chipTurn (t.withInput l) k = (chipTurn t k).withInput l := by
    intro t k
    cases k <;> simp only [chipTurn, withInput_cfg, withInput_sched, mixerUpdate_withInput, ifTurns_withInput]
    · by_cases h : acts t.cfg.clockRates.vtg t.sched.tickCount = true <;> simp only [h, if_true] <;> rfl
    · by_cases h : acts t.cfg.clockRates.mixer t.sched.tickCount = true <;> simp only [h, if_true]
      rfl
    · by_cases h : acts t.cfg.clockRates.fdc t.sched.tickCount = true <;> simp only [h, if_true] <;> rfl
  unfold chipTurns
  induction ks generalizing s with
  | nil => rfl
  | cons k ks ih => rw [List.foldl_cons, turn, ih, List.foldl_cons]

theorem beforeCore_withInput (s : State) (l : List TickInput) :
    beforeCore (s.withInput l) = (beforeCore s).withInput l :=
  chipTurns_withInput _ s l

theorem afterCore_withInput (s : State) (l : List TickInput) :
    afterCore (s.withInput l) = (afterCore s).withInput l := by
  simp only [afterCore, withInput_cfg, chipTurns_withInput]
  rfl

theorem cycleAct_withInput (m : Micro) (next : Phase) (c : Cycle) (s : State) (l : List TickInput) :
    cycleAct m next c (s.withInput l) = (cycleAct m next c s).withInput l := by
  simp only [cycleAct, withInput_cpu, withInput_cfg, busRead_withInput, busWrite_withInput]
  cases cycleStored m c s.cpu <;> rfl

theorem fetchWith_withInput (finish : Cpu → Cpu) (s : State) (l : List TickInput) :
    fetchWith finish (s.withInput l) = (fetchWith finish s).withInput l := by
  simp only [fetchWith, withInput_cpu, busRead_withInput]
  rfl

theorem rowTick_withInput (m : Micro) (mk : Nat → Phase) (n : Nat) (rows : List Cycle) (s : State) (l : List TickInput) :
    rowTick m mk n rows (s.withInput l) = answerWithInput (rowTick m mk n rows s) l := by
  cases rows with
  | nil => rfl
  | cons c rest => simp only [rowTick, cycleAct_withInput, answerWithInput]

theorem coreTurn_withInput (s : State) (l : List TickInput) :
    coreTurn (s.withInput l) = answerWithInput (coreTurn s) l := by
  simp only [coreTurn, coreUpdate, fetchTick, sequenceTick, withInput_cfg, withInput_cpu, withInput_sched,
    rowTick_withInput, busRead_withInput, fetchWith_withInput]
  repeat' split
  all_goals simp_all [answerWithInput]

/-! ## The tick of rule R13 -/

/-- The tick's configuration is an input: what stands in the state is not read (rule R13). -/
theorem tickOn_withCfg (c k : Config) (i : TickInput) (s : State) : tickOn c i { s with cfg := k } = tickOn c i s := rfl

/-- What the outside does is an input: the script in the state is not read, and stays (rule R13). -/
theorem tickOn_withInput (c : Config) (i : TickInput) (s : State) (l : List TickInput) :
    tickOn c i (s.withInput l) = answerWithInput (tickOn c i s) l := by
  have h : ({ s.withInput l with cfg := c } : State) = ({ s with cfg := c } : State).withInput l := rfl
  simp only [tickOn, h, boundaryOn_withInput, beforeCore_withInput, coreTurn_withInput]
  cases coreTurn (beforeCore (boundaryOn i { s with cfg := c })) <;>
    simp only [answerWithInput, afterCore_withInput] <;> split <;> rfl

@[simp] theorem cycleAct_cfg (m : Micro) (next : Phase) (c : Cycle) (s : State) : (cycleAct m next c s).cfg = s.cfg := by
  unfold cycleAct
  split <;> simp [busRead, busWrite]

theorem coreTurn_cfg {s t : State} (h : coreTurn s = .next t) : t.cfg = s.cfg := by
  have row : ∀ {m mk n rows}, rowTick m mk n rows s = .next t → t.cfg = s.cfg := by
    intro m mk n rows h
    cases rows with
    | nil => simp [rowTick] at h
    | cons c rest => simp only [rowTick, Host.Outcome.next.injEq] at h; rw [← h, cycleAct_cfg]
  have fetch : ∀ {f}, fetchWith f s = t → t.cfg = s.cfg := by
    rintro f rfl; simp [fetchWith, busRead]
  simp only [coreTurn, coreUpdate, fetchTick, sequenceTick] at h
  repeat' split at h
  all_goals first
    | exact row h
    | (simp only [Host.Outcome.next.injEq] at h; first | exact fetch h | rw [h])
    | cases h

/-- A tick leaves the configuration it was given in the state (rules R47, R63). -/
theorem tickOn_cfg {c : Config} {i : TickInput} {s t : State} (h : tickOn c i s = .next t) : t.cfg = c := by
  simp only [tickOn] at h
  split at h
  · split at h
    · rename_i u hu
      have hc := coreTurn_cfg hu
      simp only [Host.Outcome.next.injEq] at h
      rw [← h, afterCore_cfg, hc, beforeCore_cfg, boundaryOn_cfg]
    · cases h
    · cases h
  · cases h

theorem ticksOn_withInput (c : Config) (is : List TickInput) (s : State) (l : List TickInput) :
    ticksOn c is (s.withInput l) = answerWithInput (ticksOn c is s) l := by
  induction is generalizing s with
  | nil => rfl
  | cons i is ih =>
    simp only [ticksOn, tickOn_withInput]
    cases tickOn c i s with
    | next t => exact ih t
    | fault e => rfl
    | refused e => rfl

/-- The machine's own tick is the tick of rule R13, with the configuration and the next entry of the script as its
inputs; the script goes on by one. -/
theorem tick_tickOn (s : State) : tick s = answerWithInput (tickOn s.cfg s.nextInput s) s.input.tail :=
  tickOn_withInput s.cfg s.nextInput s s.input.tail

/-- The machine's own ticks are ticks of rule R13 in a row, on one configuration and the entries of the script, which
are inputs there: the state is what they make of it, with the rest of the script. -/
theorem ticks_ticksOn (n : Nat) (s : State) :
    ticks n s = answerWithInput (ticksOn s.cfg (scriptInputs n s.input) s) (s.input.drop n) := by
  induction n generalizing s with
  | zero => rfl
  | succ n ih =>
    simp only [ticks, ticksOn, scriptInputs, tick_tickOn, State.nextInput]
    cases h : tickOn s.cfg (s.input.headD ⟨[], [], []⟩) s with
    | fault e => rfl
    | refused e => rfl
    | next t =>
      simp only [answerWithInput, ih, withInput_cfg, withInput_input, tickOn_cfg h, ticksOn_withInput, List.drop_tail]
      cases ticksOn s.cfg (scriptInputs n s.input.tail) t <;> rfl

end Sys2Proof.Machine
end

