-- ==== Sys2Proof/Laws/Address.lean ====
section
/-! SUPPORT. Sys2Proof/Laws/Address.lean: bytes and addresses: the halves of an address, the indexed addresses
that the latches build byte by byte, and the target of a branch. -/

namespace Sys2Proof.Machine

theorem toNat_join (hi lo : Byte) : (join hi lo).toNat = hi.toNat * 256 + lo.toNat := by
  have h : (join hi lo).toNat = hi.toNat <<< 8 ||| lo.toNat := BitVec.toNat_append hi lo
  have hl := lo.isLt
  rw [h, ← Nat.shiftLeft_add_eq_or_of_lt hl, Nat.shiftLeft_eq]

@[simp] theorem highByte_join (hi lo : Byte) : highByte (join hi lo) = hi := by
  apply BitVec.eq_of_toNat_eq
  simp only [highByte, BitVec.extractLsb'_toNat, toNat_join, Nat.shiftRight_eq_div_pow]
  have := hi.isLt; have := lo.isLt
  omega

@[simp] theorem lowByte_join (hi lo : Byte) : lowByte (join hi lo) = lo := by
  apply BitVec.eq_of_toNat_eq
  simp only [lowByte, BitVec.toNat_setWidth, toNat_join]
  have := hi.isLt; have := lo.isLt
  omega

theorem toNat_highByte (a : Addr) : (highByte a).toNat = a.toNat / 256 := by
  simp only [highByte, BitVec.extractLsb'_toNat, Nat.shiftRight_eq_div_pow]
  have := a.isLt
  omega

theorem toNat_lowByte (a : Addr) : (lowByte a).toNat = a.toNat % 256 := by
  simp [lowByte, BitVec.toNat_setWidth]

/-- An address is put together from its two bytes (rule R9). -/
@[simp] theorem join_highByte_lowByte (a : Addr) : join (highByte a) (lowByte a) = a := by
  apply BitVec.eq_of_toNat_eq
  rw [toNat_join, toNat_highByte, toNat_lowByte]
  omega

/-- The indexed address when no page is crossed (rules R142, R149). -/
theorem eaIndexed_same {lo hi i : Byte} (h : byteCarry lo i = false) : eaIndexed lo hi i = join hi (lo + i) := by
  have h : lo.toNat + i.toNat < 256 := by simpa [byteCarry] using h
  apply BitVec.eq_of_toNat_eq
  have := hi.isLt; have := lo.isLt; have := i.isLt
  simp only [eaIndexed, BitVec.toNat_add, toNat_join, BitVec.toNat_setWidth]
  omega

/-- The indexed address when a page is crossed (rules R142, R149). -/
theorem eaIndexed_cross {lo hi i : Byte} (h : byteCarry lo i = true) :
    eaIndexed lo hi i = join (hi + 1#8) (lo + i) := by
  have h : 256 ≤ lo.toNat + i.toNat := by simpa [byteCarry] using h
  apply BitVec.eq_of_toNat_eq
  have := hi.isLt; have := lo.isLt; have := i.isLt
  simp only [eaIndexed, BitVec.toNat_add, toNat_join, BitVec.toNat_setWidth, BitVec.toNat_ofNat]
  omega

/-- The indexed address as the latches build it (rules R143, R144, R147). -/
theorem eaIndexed_fix (lo hi i : Byte) :
    join (if byteCarry lo i then hi + 1#8 else hi) (lo + i) = eaIndexed lo hi i := by
  cases h : byteCarry lo i
  · simp [eaIndexed_same h]
  · simp [eaIndexed_cross h]

/-- The corrected high byte of a branch that changes the page is the target's (rule R151). -/
theorem branchHigh_target (next : Addr) (d : Byte)
    (h : highByte (branchTarget next d) ≠ highByte next) :
    (if d.msb then highByte next - 1#8 else highByte next + 1#8) = highByte (branchTarget next d) := by
  have hs : (signExtend16 d).toNat = if d.msb then 65280 + d.toNat else d.toNat := by
    have hd := d.isLt
    simp only [signExtend16, BitVec.toNat_signExtend, BitVec.toNat_setWidth]
    split <;> omega
  have h' : (branchTarget next d).toNat / 256 ≠ next.toNat / 256 := by
    intro e
    exact h (BitVec.eq_of_toNat_eq (by rw [toNat_highByte, toNat_highByte, e]))
  have hm : d.msb = decide (128 ≤ d.toNat) := by
    simp [BitVec.msb_eq_decide]
  have := next.isLt; have := d.isLt
  apply BitVec.eq_of_toNat_eq
  simp only [branchTarget, BitVec.toNat_add, hs, hm] at h'
  rw [toNat_highByte]
  simp only [branchTarget, BitVec.toNat_add, hs, hm]
  by_cases hd : 128 ≤ d.toNat
  · simp only [hd, decide_true, if_true] at h' ⊢
    simp only [BitVec.toNat_sub, toNat_highByte, BitVec.toNat_ofNat]
    omega
  · simp only [hd, decide_false, Bool.false_eq_true, if_false] at h' ⊢
    simp only [BitVec.toNat_add, toNat_highByte, BitVec.toNat_ofNat]
    omega

end Sys2Proof.Machine
end

