-- ==== Sys2Proof/Laws/Pattern.lean ====
section
/-! SUPPORT. Sys2Proof/Laws/Pattern.lean: chaining the ticks of a pattern: the transactions of two runs in a row,
one row of a pattern, T1, and what a pattern's trace says about memory. -/

namespace Sys2Proof.Machine

/-! ## Runs in a row -/

theorem replays_append {c : Config} {m m' m'' : Memory} {b b' b'' : List Bank} {l l' : List Transaction}
    (h : replays c m b l m' b') (h' : replays c m' b' l' m'' b'') : replays c m b (l ++ l') m'' b'' := by
  induction l generalizing m b with
  | nil => obtain ⟨rfl, rfl⟩ := h; exact h'
  | cons t l ih =>
    simp only [List.cons_append, replays] at h ⊢
    split <;> simp_all

/-- Turns in a row add up (rule R71). -/
theorem afterTurns_add (c : Config) (j k n : Nat) : afterTurns c (j + k) n = afterTurns c k (afterTurns c j n) := by
  induction j generalizing n with
  | zero => simp [afterTurns]
  | succ j ih => rw [Nat.succ_add]; exact ih (nextTurn c n)

/-- With the divider 1 the core acts in every tick (rule R71). -/
theorem afterTurns_undivided {c : Config} (h : c.clockRates.core = 1) (k n : Nat) : afterTurns c k n = n + k := by
  induction k generalizing n with
  | zero => rfl
  | succ k ih => rw [afterTurns, ih]; simp [nextTurn, coreIdle, h]; omega

theorem Makes.refl (s : State) : Makes s s [] := by
  simp [Makes, replays, afterTurns]

theorem Makes.trans {s t v : State} {l l' : List Transaction} (h : Makes s t l) (h' : Makes t v l') :
    Makes s v (l ++ l') := by
  obtain ⟨h1, h2, h3, h4⟩ := h
  obtain ⟨k1, k2, k3, k4⟩ := h'
  refine ⟨by rw [k1, h1, List.append_assoc], replays_append h2 (h4 ▸ k2), ?_, by rw [k4, h4]⟩
  rw [k3, h4, h3, List.length_append, afterTurns_add]

/-- The core as it stands before its next update (rules R70, R419). -/
def routed (s : State) : Cpu :=
  (coreView s).cpu

@[simp] theorem routed_regs (s : State) : (routed s).regs = s.cpu.regs := coreView_cpu_regs s
@[simp] theorem routed_pc (s : State) : (routed s).pc = s.cpu.pc := coreView_cpu_pc s
@[simp] theorem routed_phase (s : State) : (routed s).phase = s.cpu.phase := coreView_cpu_phase s
@[simp] theorem routed_latch (s : State) : (routed s).latch = s.cpu.latch := coreView_cpu_latch s
@[simp] theorem routed_seqKind (s : State) : (routed s).seqKind = s.cpu.seqKind := coreView_cpu_seqKind s
@[simp] theorem routed_illegal (s : State) : (routed s).illegal = s.cpu.illegal := coreView_cpu_illegal s

/-! ## One row, and T1 -/

/-- One row of a pattern that reads: its transaction returned `b`, and the core is the row's effect with `b`. -/
theorem read_row (m : Micro) (next : Phase) (c : Cycle) (s : State) (h : cycleStored m c (routed s) = none) :
    ∃ b, (turnWith (cycleAct m next c) s).cpu = cycleCommit m next c b (routed s) ∧
      Makes s (turnWith (cycleAct m next c) s) [rd (cycleAddr s.cfg c (routed s)) b] := by
  obtain ⟨b, -, h2, h3, h4, h5, h6⟩ := turn_row m next c s
  change cycleStored m c (coreView s).cpu = none at h
  rw [h] at h3 h4
  exact ⟨b, h2, h3, h4, h6, h5⟩

/-- One row of a pattern that writes the byte `v`. -/
theorem write_row (m : Micro) (next : Phase) (c : Cycle) (s : State) {v : Byte}
    (h : cycleStored m c (routed s) = some v) :
    (turnWith (cycleAct m next c) s).cpu = cycleCommit m next c v (routed s) ∧
      Makes s (turnWith (cycleAct m next c) s) [wr (cycleAddr s.cfg c (routed s)) v] := by
  obtain ⟨b, h1, h2, h3, h4, h5, h6⟩ := turn_row m next c s
  change cycleStored m c (coreView s).cpu = some v at h
  rw [h] at h1 h3 h4
  obtain rfl := h1 v rfl
  exact ⟨h2, h3, h4, h6, h5⟩

/-- Tick T1: the opcode byte is read at `PC`, which moves on (rule R131). -/
theorem fetch_row (finish : Cpu → Cpu) (s : State) :
    ∃ b, (turnWith (fetchWith finish) s).cpu =
        finish { routed s with latch := { s.cpu.latch with ir := b }, pc := s.cpu.pc + 1#16 } ∧
      b = fetchedByte s ∧ Makes s (turnWith (fetchWith finish) s) [rd s.cpu.pc b] := by
  obtain ⟨b, h1, h2, h3, h4, h5, h6, h7, h8⟩ := turn_fetch finish s
  refine ⟨b, ?_, h2, h3, by simp [replays, rd, h4, h5, h6], h8, h7⟩
  rw [h1]; simp [routed]

@[simp] theorem runCycles_nil (m : Micro) (mk : Nat → Phase) (n : Nat) (s : State) : runCycles m mk n [] s = s := rfl

/-- A pattern that goes on with a reading row: the row's tick, then the rest unless the row ended the pattern. -/
theorem run_read (m : Micro) (mk : Nat → Phase) (n : Nat) (c : Cycle) (rest : List Cycle) (s : State)
    (h : cycleStored m c (routed s) = none) :
    ∃ b t, t.cpu = cycleCommit m (phaseAfter mk n rest) c b (routed s) ∧
      Makes s t [rd (cycleAddr s.cfg c (routed s)) b] ∧
      runCycles m mk n (c :: rest) s = if t.cpu.phase = .fetch then t else runCycles m mk (n + 1) rest t := by
  obtain ⟨b, h1, h2⟩ := read_row m (phaseAfter mk n rest) c s h
  exact ⟨b, _, h1, h2, rfl⟩

/-- A pattern that goes on with a writing row. -/
theorem run_write (m : Micro) (mk : Nat → Phase) (n : Nat) (c : Cycle) (rest : List Cycle) (s : State) {v : Byte}
    (h : cycleStored m c (routed s) = some v) :
    ∃ t, t.cpu = cycleCommit m (phaseAfter mk n rest) c v (routed s) ∧
      Makes s t [wr (cycleAddr s.cfg c (routed s)) v] ∧
      runCycles m mk n (c :: rest) s = if t.cpu.phase = .fetch then t else runCycles m mk (n + 1) rest t := by
  obtain ⟨h1, h2⟩ := write_row m (phaseAfter mk n rest) c s h
  exact ⟨_, h1, h2, rfl⟩

/-- A whole instruction: T1, then its pattern. -/
theorem run_instruction (m : Micro) (s : State) :
    ∃ op t, t.cpu = beginPattern m { routed s with latch := { s.cpu.latch with ir := op }, pc := s.cpu.pc + 1#16 } ∧
      op = fetchedByte s ∧ Makes s t [rd s.cpu.pc op] ∧
      runMicro m s = runCycles m .executeCycle 2 m.cycles t := by
  obtain ⟨b, h1, h2, h3⟩ := fetch_row (beginPattern m) s
  exact ⟨b, _, h1, h2, h3, rfl⟩

/-! ## Memory after a trace -/

/-- A trace of reads leaves memory as it was. -/
theorem replays_reads {c : Config} {m m' : Memory} {b b' : List Bank} {l : List Transaction}
    (h : replays c m b l m' b') (hr : ∀ t ∈ l, t.write = false) : m' = m ∧ b' = b := by
  induction l generalizing m b with
  | nil => exact h
  | cons t l ih =>
    have ht := hr t (by simp)
    simp only [replays, ht] at h
    exact ih h.2 fun x hx => hr x (by simp [hx])

theorem Makes.reads_same {s t : State} {l : List Transaction} (h : Makes s t l)
    (hr : ∀ x ∈ l, x.write = false) : memorySame s t := by
  obtain ⟨h1, h2⟩ := replays_reads h.2.1 hr
  exact ⟨fun a => by simp only [State.peek, h.2.2.2, h1], h2⟩

/-- The last byte that a trace writes at an address. -/
def lastWritten (a : Addr) : List Transaction → Option Byte
  | [] => none
  | t :: ts =>
    match lastWritten a ts with
    | some v => some v
    | none => if t.write ∧ t.addr = a then some t.data else none

/-- Memory after a trace: in a writable region the last byte written, elsewhere what it was (rules R64, R78). -/
theorem replays_memoryByte {c : Config} {m m' : Memory} {b b' : List Bank} {l : List Transaction}
    (h : replays c m b l m' b') (a : Addr) :
    memoryByte c m' a = if ramOwned c a then (lastWritten a l).getD (memoryByte c m a) else memoryByte c m a := by
  induction l generalizing m b with
  | nil => simp [h.1, lastWritten]
  | cons t l ih =>
    by_cases hw : t.write = true
    · simp only [replays, hw, if_true] at h
      rw [ih h, memoryByte_storeIn]
      by_cases hr : ramOwned c a = true
      · cases hl : lastWritten a l with
        | some v => simp [hr, lastWritten, hl]
        | none => by_cases ha : t.addr = a <;> simp_all [lastWritten]
      · have : ¬(t.addr = a ∧ ramOwned c t.addr = true) := fun ⟨e, hr'⟩ => hr (e ▸ hr')
        simp [hr, this]
    · simp only [replays, hw] at h
      rw [ih h.2]
      simp [lastWritten, hw]
      cases lastWritten a l <;> rfl

/-- The write transactions of a trace, each with its byte. -/
def writesOf (l : List Transaction) : List (Addr × Byte) :=
  l.filterMap fun t => if t.write then some (t.addr, t.data) else none

/-- The banked regions after a trace (rules R69, R78). -/
theorem replays_banks {c : Config} {m m' : Memory} {b b' : List Bank} {l : List Transaction}
    (h : replays c m b l m' b') : b' = (writesOf l).foldl (fun bs w => storeBanks c bs w.1 w.2) b := by
  induction l generalizing m b with
  | nil => exact h.2
  | cons t l ih =>
    by_cases hw : t.write = true
    · simp only [replays, hw, if_true] at h
      simpa [writesOf, hw] using ih h
    · simp only [replays, hw] at h
      simpa [writesOf, hw] using ih h.2

/-- The byte at an address after a run (rule R78). -/
theorem Makes.peek {s t : State} {l : List Transaction} (h : Makes s t l) (a : Addr) :
    t.peek a = if ramOwned s.cfg a then (lastWritten a l).getD (s.peek a) else s.peek a := by
  simp only [State.peek, h.2.2.2, replays_memoryByte h.2.1 a]

/-- What a run has stored (rules R64, R65, R69): `ws` lists the addresses it writes, each with the last byte written,
and the banked regions take the same from `ws` as from all its writes. -/
theorem Makes.memoryWritten {s t : State} {l : List Transaction} {ws : List (Addr × Byte)} (h : Makes s t l)
    (hw : ∀ w ∈ ws, lastWritten w.1 l = some w.2)
    (ho : ∀ a, a ∉ ws.map (fun w => w.1) → lastWritten a l = none)
    (hb : (writesOf l).foldl (fun bs w => storeBanks s.cfg bs w.1 w.2) s.banks =
      ws.foldl (fun bs w => storeBanks s.cfg bs w.1 w.2) s.banks) :
    Sys2Proof.Machine.memoryWritten s t ws := by
  refine ⟨fun a ha => ?_, fun w hmem => ?_, (replays_banks h.2.1).trans hb⟩
  · rw [h.peek, ho a ha]; simp
  · rw [h.peek, hw w hmem]; simp

end Sys2Proof.Machine
end

