-- ==== Sys2Proof/Laws/PerInstr.lean ====
section
/-! SUPPORT. Sys2Proof/Laws/PerInstr.lean: statements made per instruction: its opcode byte decodes to it. -/

namespace Sys2Proof.Laws.RoundTrip

/-- The opcode byte of an instruction is the one the decoder reads it from (rules R103, R110, R115). -/
def Statement (i : Instr) : Prop :=
  decodeOpcode (encodeOpcode i) = i

theorem brk : Statement .brk := rfl
theorem oraIzx : Statement .oraIzx := rfl
theorem und02 : Statement .und02 := rfl
theorem und03 : Statement .und03 := rfl
theorem und04 : Statement .und04 := rfl
theorem oraZp : Statement .oraZp := rfl
theorem aslZp : Statement .aslZp := rfl
theorem und07 : Statement .und07 := rfl
theorem php : Statement .php := rfl
theorem oraImm : Statement .oraImm := rfl
theorem aslAcc : Statement .aslAcc := rfl
theorem und0B : Statement .und0B := rfl
theorem und0C : Statement .und0C := rfl
theorem oraAbs : Statement .oraAbs := rfl
theorem aslAbs : Statement .aslAbs := rfl
theorem und0F : Statement .und0F := rfl
theorem bpl : Statement .bpl := rfl
theorem oraIzy : Statement .oraIzy := rfl
theorem und12 : Statement .und12 := rfl
theorem und13 : Statement .und13 := rfl
theorem und14 : Statement .und14 := rfl
theorem oraZpx : Statement .oraZpx := rfl
theorem aslZpx : Statement .aslZpx := rfl
theorem und17 : Statement .und17 := rfl
theorem clc : Statement .clc := rfl
theorem oraAby : Statement .oraAby := rfl
theorem und1A : Statement .und1A := rfl
theorem und1B : Statement .und1B := rfl
theorem und1C : Statement .und1C := rfl
theorem oraAbx : Statement .oraAbx := rfl
theorem aslAbx : Statement .aslAbx := rfl
theorem und1F : Statement .und1F := rfl
theorem jsr : Statement .jsr := rfl
theorem andIzx : Statement .andIzx := rfl
theorem und22 : Statement .und22 := rfl
theorem und23 : Statement .und23 := rfl
theorem bitZp : Statement .bitZp := rfl
theorem andZp : Statement .andZp := rfl
theorem rolZp : Statement .rolZp := rfl
theorem und27 : Statement .und27 := rfl
theorem plp : Statement .plp := rfl
theorem andImm : Statement .andImm := rfl
theorem rolAcc : Statement .rolAcc := rfl
theorem und2B : Statement .und2B := rfl
theorem bitAbs : Statement .bitAbs := rfl
theorem andAbs : Statement .andAbs := rfl
theorem rolAbs : Statement .rolAbs := rfl
theorem und2F : Statement .und2F := rfl
theorem bmi : Statement .bmi := rfl
theorem andIzy : Statement .andIzy := rfl
theorem und32 : Statement .und32 := rfl
theorem und33 : Statement .und33 := rfl
theorem und34 : Statement .und34 := rfl
theorem andZpx : Statement .andZpx := rfl
theorem rolZpx : Statement .rolZpx := rfl
theorem und37 : Statement .und37 := rfl
theorem sec : Statement .sec := rfl
theorem andAby : Statement .andAby := rfl
theorem und3A : Statement .und3A := rfl
theorem und3B : Statement .und3B := rfl
theorem und3C : Statement .und3C := rfl
theorem andAbx : Statement .andAbx := rfl
theorem rolAbx : Statement .rolAbx := rfl
theorem und3F : Statement .und3F := rfl
theorem rti : Statement .rti := rfl
theorem eorIzx : Statement .eorIzx := rfl
theorem und42 : Statement .und42 := rfl
theorem und43 : Statement .und43 := rfl
theorem und44 : Statement .und44 := rfl
theorem eorZp : Statement .eorZp := rfl
theorem lsrZp : Statement .lsrZp := rfl
theorem und47 : Statement .und47 := rfl
theorem pha : Statement .pha := rfl
theorem eorImm : Statement .eorImm := rfl
theorem lsrAcc : Statement .lsrAcc := rfl
theorem und4B : Statement .und4B := rfl
theorem jmpAbs : Statement .jmpAbs := rfl
theorem eorAbs : Statement .eorAbs := rfl
theorem lsrAbs : Statement .lsrAbs := rfl
theorem und4F : Statement .und4F := rfl
theorem bvc : Statement .bvc := rfl
theorem eorIzy : Statement .eorIzy := rfl
theorem und52 : Statement .und52 := rfl
theorem und53 : Statement .und53 := rfl
theorem und54 : Statement .und54 := rfl
theorem eorZpx : Statement .eorZpx := rfl
theorem lsrZpx : Statement .lsrZpx := rfl
theorem und57 : Statement .und57 := rfl
theorem cli : Statement .cli := rfl
theorem eorAby : Statement .eorAby := rfl
theorem und5A : Statement .und5A := rfl
theorem und5B : Statement .und5B := rfl
theorem und5C : Statement .und5C := rfl
theorem eorAbx : Statement .eorAbx := rfl
theorem lsrAbx : Statement .lsrAbx := rfl
theorem und5F : Statement .und5F := rfl
theorem rts : Statement .rts := rfl
theorem adcIzx : Statement .adcIzx := rfl
theorem und62 : Statement .und62 := rfl
theorem und63 : Statement .und63 := rfl
theorem und64 : Statement .und64 := rfl
theorem adcZp : Statement .adcZp := rfl
theorem rorZp : Statement .rorZp := rfl
theorem und67 : Statement .und67 := rfl
theorem pla : Statement .pla := rfl
theorem adcImm : Statement .adcImm := rfl
theorem rorAcc : Statement .rorAcc := rfl
theorem und6B : Statement .und6B := rfl
theorem jmpInd : Statement .jmpInd := rfl
theorem adcAbs : Statement .adcAbs := rfl
theorem rorAbs : Statement .rorAbs := rfl
theorem und6F : Statement .und6F := rfl
theorem bvs : Statement .bvs := rfl
theorem adcIzy : Statement .adcIzy := rfl
theorem und72 : Statement .und72 := rfl
theorem und73 : Statement .und73 := rfl
theorem und74 : Statement .und74 := rfl
theorem adcZpx : Statement .adcZpx := rfl
theorem rorZpx : Statement .rorZpx := rfl
theorem und77 : Statement .und77 := rfl
theorem sei : Statement .sei := rfl
theorem adcAby : Statement .adcAby := rfl
theorem und7A : Statement .und7A := rfl
theorem und7B : Statement .und7B := rfl
theorem und7C : Statement .und7C := rfl
theorem adcAbx : Statement .adcAbx := rfl
theorem rorAbx : Statement .rorAbx := rfl
theorem und7F : Statement .und7F := rfl
theorem und80 : Statement .und80 := rfl
theorem staIzx : Statement .staIzx := rfl
theorem und82 : Statement .und82 := rfl
theorem und83 : Statement .und83 := rfl
theorem styZp : Statement .styZp := rfl
theorem staZp : Statement .staZp := rfl
theorem stxZp : Statement .stxZp := rfl
theorem und87 : Statement .und87 := rfl
theorem dey : Statement .dey := rfl
theorem und89 : Statement .und89 := rfl
theorem txa : Statement .txa := rfl
theorem und8B : Statement .und8B := rfl
theorem styAbs : Statement .styAbs := rfl
theorem staAbs : Statement .staAbs := rfl
theorem stxAbs : Statement .stxAbs := rfl
theorem und8F : Statement .und8F := rfl
theorem bcc : Statement .bcc := rfl
theorem staIzy : Statement .staIzy := rfl
theorem und92 : Statement .und92 := rfl
theorem und93 : Statement .und93 := rfl
theorem styZpx : Statement .styZpx := rfl
theorem staZpx : Statement .staZpx := rfl
theorem stxZpy : Statement .stxZpy := rfl
theorem und97 : Statement .und97 := rfl
theorem tya : Statement .tya := rfl
theorem staAby : Statement .staAby := rfl
theorem txs : Statement .txs := rfl
theorem und9B : Statement .und9B := rfl
theorem und9C : Statement .und9C := rfl
theorem staAbx : Statement .staAbx := rfl
theorem und9E : Statement .und9E := rfl
theorem und9F : Statement .und9F := rfl
theorem ldyImm : Statement .ldyImm := rfl
theorem ldaIzx : Statement .ldaIzx := rfl
theorem ldxImm : Statement .ldxImm := rfl
theorem undA3 : Statement .undA3 := rfl
theorem ldyZp : Statement .ldyZp := rfl
theorem ldaZp : Statement .ldaZp := rfl
theorem ldxZp : Statement .ldxZp := rfl
theorem undA7 : Statement .undA7 := rfl
theorem tay : Statement .tay := rfl
theorem ldaImm : Statement .ldaImm := rfl
theorem tax : Statement .tax := rfl
theorem undAB : Statement .undAB := rfl
theorem ldyAbs : Statement .ldyAbs := rfl
theorem ldaAbs : Statement .ldaAbs := rfl
theorem ldxAbs : Statement .ldxAbs := rfl
theorem undAF : Statement .undAF := rfl
theorem bcs : Statement .bcs := rfl
theorem ldaIzy : Statement .ldaIzy := rfl
theorem undB2 : Statement .undB2 := rfl
theorem undB3 : Statement .undB3 := rfl
theorem ldyZpx : Statement .ldyZpx := rfl
theorem ldaZpx : Statement .ldaZpx := rfl
theorem ldxZpy : Statement .ldxZpy := rfl
theorem undB7 : Statement .undB7 := rfl
theorem clv : Statement .clv := rfl
theorem ldaAby : Statement .ldaAby := rfl
theorem tsx : Statement .tsx := rfl
theorem undBB : Statement .undBB := rfl
theorem ldyAbx : Statement .ldyAbx := rfl
theorem ldaAbx : Statement .ldaAbx := rfl
theorem ldxAby : Statement .ldxAby := rfl
theorem undBF : Statement .undBF := rfl
theorem cpyImm : Statement .cpyImm := rfl
theorem cmpIzx : Statement .cmpIzx := rfl
theorem undC2 : Statement .undC2 := rfl
theorem undC3 : Statement .undC3 := rfl
theorem cpyZp : Statement .cpyZp := rfl
theorem cmpZp : Statement .cmpZp := rfl
theorem decZp : Statement .decZp := rfl
theorem undC7 : Statement .undC7 := rfl
theorem iny : Statement .iny := rfl
theorem cmpImm : Statement .cmpImm := rfl
theorem dex : Statement .dex := rfl
theorem undCB : Statement .undCB := rfl
theorem cpyAbs : Statement .cpyAbs := rfl
theorem cmpAbs : Statement .cmpAbs := rfl
theorem decAbs : Statement .decAbs := rfl
theorem undCF : Statement .undCF := rfl
theorem bne : Statement .bne := rfl
theorem cmpIzy : Statement .cmpIzy := rfl
theorem undD2 : Statement .undD2 := rfl
theorem undD3 : Statement .undD3 := rfl
theorem undD4 : Statement .undD4 := rfl
theorem cmpZpx : Statement .cmpZpx := rfl
theorem decZpx : Statement .decZpx := rfl
theorem undD7 : Statement .undD7 := rfl
theorem cld : Statement .cld := rfl
theorem cmpAby : Statement .cmpAby := rfl
theorem undDA : Statement .undDA := rfl
theorem undDB : Statement .undDB := rfl
theorem undDC : Statement .undDC := rfl
theorem cmpAbx : Statement .cmpAbx := rfl
theorem decAbx : Statement .decAbx := rfl
theorem undDF : Statement .undDF := rfl
theorem cpxImm : Statement .cpxImm := rfl
theorem sbcIzx : Statement .sbcIzx := rfl
theorem undE2 : Statement .undE2 := rfl
theorem undE3 : Statement .undE3 := rfl
theorem cpxZp : Statement .cpxZp := rfl
theorem sbcZp : Statement .sbcZp := rfl
theorem incZp : Statement .incZp := rfl
theorem undE7 : Statement .undE7 := rfl
theorem inx : Statement .inx := rfl
theorem sbcImm : Statement .sbcImm := rfl
theorem nop : Statement .nop := rfl
theorem undEB : Statement .undEB := rfl
theorem cpxAbs : Statement .cpxAbs := rfl
theorem sbcAbs : Statement .sbcAbs := rfl
theorem incAbs : Statement .incAbs := rfl
theorem undEF : Statement .undEF := rfl
theorem beq : Statement .beq := rfl
theorem sbcIzy : Statement .sbcIzy := rfl
theorem undF2 : Statement .undF2 := rfl
theorem undF3 : Statement .undF3 := rfl
theorem undF4 : Statement .undF4 := rfl
theorem sbcZpx : Statement .sbcZpx := rfl
theorem incZpx : Statement .incZpx := rfl
theorem undF7 : Statement .undF7 := rfl
theorem sed : Statement .sed := rfl
theorem sbcAby : Statement .sbcAby := rfl
theorem undFA : Statement .undFA := rfl
theorem undFB : Statement .undFB := rfl
theorem undFC : Statement .undFC := rfl
theorem sbcAbx : Statement .sbcAbx := rfl
theorem incAbx : Statement .incAbx := rfl
theorem undFF : Statement .undFF := rfl

end Sys2Proof.Laws.RoundTrip
end

