-- ==== Sys2Proof/Laws/Video.lean ====
section
/-! SUPPORT. Sys2Proof/Laws/Video.lean: what a write to the video chips can do: the bits that a staged update
replaces, the widths of the programmed fields, the size and widths of the palette. -/

namespace Sys2Proof.Machine

/-! ## The timing generator -/

/-- Masked bits are those of the new value, the others those of the old (rule R39). -/
theorem mergeBits_testBit (old new mask i : Nat) :
    (mergeBits old new mask).testBit i = if mask.testBit i then new.testBit i else old.testBit i := by
  simp only [mergeBits, Nat.testBit_xor, Nat.testBit_and]
  cases mask.testBit i <;> cases new.testBit i <;> cases old.testBit i <;> rfl

theorem mergeBits_lt {old new mask w : Nat} (ho : old < 2 ^ w) (hm : mask < 2 ^ w) : mergeBits old new mask < 2 ^ w :=
  Nat.xor_lt_two_pow ho (Nat.and_lt_two_pow _ hm)

/-- A staged update replaces the masked bits of its field and no other field (rule R323). -/
theorem vtgGet_vtgApply (r : VtgRegs) (u : VtgUpdate) (f : VtgField) :
    vtgGet (vtgApply r u) f = if f = u.field then mergeBits (vtgGet r f) u.value u.mask else vtgGet r f := by
  unfold vtgApply
  cases u.field <;> cases f <;> rfl

/-- A register set fits its widths when every field does (rules R322, R325). -/
theorem VtgRegs.fits_iff (w r : VtgRegs) : w.fits r = true ↔ ∀ f, vtgGet r f < 2 ^ vtgGet w f := by
  constructor
  · intro h f
    simp only [VtgRegs.fits, Bool.and_eq_true, decide_eq_true_eq] at h
    cases f <;> simp only [vtgGet] <;> tauto
  · intro h
    simp only [VtgRegs.fits, Bool.and_eq_true, decide_eq_true_eq]
    exact ⟨⟨⟨⟨⟨⟨⟨⟨⟨⟨h .hTotal, h .vTotal⟩, h .hSyncPos⟩, h .vSyncPos⟩, h .hSyncWidth⟩, h .vSyncWidth⟩, h .hDisplayed⟩,
      h .vDisplayed⟩, h .startAddr⟩, h .linesPerRow⟩, h .policy⟩

/-- An update within its field keeps the widths. -/
theorem vtgApply_fits {c : VtgCfg} {r : VtgRegs} {u : VtgUpdate} (hr : c.widths.fits r = true)
    (hu : u.mask < 2 ^ vtgWidth c u.field) : c.widths.fits (vtgApply r u) = true := by
  rw [VtgRegs.fits_iff] at hr ⊢
  intro f
  rw [vtgGet_vtgApply]
  split
  · rename_i h
    exact mergeBits_lt (hr f) (h ▸ hu)
  · exact hr f

theorem vtgApplies_fits {c : VtgCfg} {us : List VtgUpdate} {r : VtgRegs} (hr : c.widths.fits r = true)
    (hu : ∀ u ∈ us, u.mask < 2 ^ vtgWidth c u.field) : c.widths.fits (us.foldl vtgApply r) = true := by
  induction us generalizing r with
  | nil => exact hr
  | cons u us ih => exact ih (vtgApply_fits hr (hu u (by simp))) fun x hx => hu x (by simp [hx])

theorem vtgCut_lt (c : VtgCfg) (u : VtgUpdate) : (vtgCut c u).mask < 2 ^ vtgWidth c (vtgCut c u).field :=
  Nat.mod_lt _ (Nat.two_pow_pos _)

/-- A bus write stages updates within their fields and changes nothing else but the private index (rules R322,
R323). -/
theorem vtgWrite_stages (c : VtgCfg) (offset : Nat) (v : Byte) (g : Vtg) : ∃ us n,
    vtgWrite c offset v g = { g with pending := g.pending ++ us, index := n } ∧
      ∀ u ∈ us, u.mask < 2 ^ vtgWidth c u.field := by
  have stage : ∀ r : VtgReg, ∀ u ∈ vtgStage c r v, u.mask < 2 ^ vtgWidth c u.field := by
    intro r u hu
    simp only [vtgStage, List.mem_map] at hu
    obtain ⟨p, -, rfl⟩ := hu
    exact vtgCut_lt c _
  unfold vtgWrite
  split
  · refine ⟨_, _, rfl, fun u hu => ?_⟩
    obtain ⟨x, -, rfl⟩ := List.mem_map.mp hu
    exact vtgCut_lt c x
  · split
    · exact ⟨[], v.toNat, by simp, by simp⟩
    · exact ⟨_, g.index, rfl, stage _⟩
    · exact ⟨_, g.index, rfl, stage _⟩
    · exact ⟨[], g.index, by simp, by simp⟩

/-! ## The Mixer -/

theorem paletteSize_pos (c : MixerCfg) : 0 < c.paletteSize :=
  Nat.two_pow_pos _

theorem rgbCut_fits (c : MixerCfg) (p : Rgb) : (rgbCut c p).fits c.rgbBits = true := by
  simp [rgbCut, Rgb.fits, Nat.mod_lt]

theorem rgbSet_fits {bits v : Nat} {p : Rgb} (hp : p.fits bits = true) (hv : v < 2 ^ bits) (k : Component) :
    (rgbSet p v k).fits bits = true := by
  simp only [Rgb.fits, Bool.and_eq_true, decide_eq_true_eq] at hp
  cases k <;> simp [rgbSet, Rgb.fits, hp, hv]

/-- A bus write keeps the size of the palette, the width of its components and the range of the index (rules R333,
R334). -/
theorem mixerWrite_fits {c : MixerCfg} {r : MixerRegs} (offset : Nat) (v : Byte) (h : r.fits c = true) :
    (mixerWrite c offset v r).fits c = true := by
  have hp := paletteSize_pos c
  simp only [MixerRegs.fits, Bool.and_eq_true, beq_iff_eq, List.all_eq_true, decide_eq_true_eq] at h ⊢
  obtain ⟨⟨h1, h2⟩, h3⟩ := h
  unfold mixerWrite
  split
  · refine ⟨⟨by simp [mixerFit], ?_⟩, Nat.mod_lt _ hp⟩
    intro x hx
    simp only [mixerFit, List.mem_map] at hx
    obtain ⟨k, -, rfl⟩ := hx
    exact rgbCut_fits c _
  · split
    · exact ⟨⟨h1, h2⟩, h3⟩
    · exact ⟨⟨h1, h2⟩, Nat.mod_lt _ hp⟩
    · refine ⟨⟨by simpa using h1, ?_⟩, h3⟩
      intro x hx
      rcases List.mem_or_eq_of_mem_set hx with hx | rfl
      · exact h2 x hx
      · refine rgbSet_fits ?_ (Nat.mod_lt _ (Nat.two_pow_pos _)) _
        rw [List.getD_eq_getElem?_getD, List.getElem?_eq_getElem (h1 ▸ h3)]
        exact h2 _ (List.getElem_mem _)
    · exact ⟨⟨h1, h2⟩, h3⟩

end Sys2Proof.Machine
end

