-- ==== Sys2Proof/Certificates/Slice0/Obligations.lean ====
section
/-! DEFINITION. Sys2Proof/Certificates/Slice0/Obligations.lean: the statements for the provers, one definition each.
In `Makes` and `Runs` the core makes one transaction in each tick in which it acts: in every tick with the divider 1,
which is the value of rule R71 (notes/assumptions/24.md for others). -/

open Sys2Proof Sys2Proof.Machine

/-- One byte of each family, its bits written out from the encoding column of the opcode table, is decoded to
the instruction of that row. -/
def Obligations.TableWords : Prop :=
  decodeTableWord 8 0b10101001 = some .ldaImm ∧ decodeTableWord 8 0b10011101 = some .staAbx ∧
    decodeTableWord 8 0b10111010 = some .tsx ∧ decodeTableWord 8 0b01001000 = some .pha ∧
    decodeTableWord 8 0b01110001 = some .adcIzy ∧ decodeTableWord 8 0b11100110 = some .incZp ∧
    decodeTableWord 8 0b00100100 = some .bitZp ∧ decodeTableWord 8 0b01101010 = some .rorAcc ∧
    decodeTableWord 8 0b01101100 = some .jmpInd ∧ decodeTableWord 8 0b11010000 = some .bne ∧
    decodeTableWord 8 0b01000000 = some .rti ∧ decodeTableWord 8 0b00000010 = some .und02

/-- For every instruction with exactly the operand bytes of its format, defined or undefined, the decoder reads
exactly that instruction from its encoding and leaves the bytes after it untouched: by the formats of the opcode
table, and under every configuration by the formats that it gives its opcodes of class Pseudo. -/
def Obligations.DecodeOfEncode : Prop :=
  ∀ (k : Config) (c : Code) (rest : List Byte),
    (c.wellFormed = true → decode (encode c ++ rest) = .ok (c, rest)) ∧
      (c.fits k.formatOf = true → decodeIn k (encode c ++ rest) = .ok (c, rest))

/-- Whenever the decoder accepts a byte sequence under a configuration, what it answers has the operand bytes of
its format and its encoding, followed by the remaining bytes, is the byte sequence; it rejects a sequence only
for missing bytes. The same of the decoder by the formats of the opcode table. -/
def Obligations.EncodeOfDecode : Prop :=
  ∀ (k : Config) (bs : List Byte),
    (∀ (c : Code) (rest : List Byte), decode bs = .ok (c, rest) → c.wellFormed = true ∧ encode c ++ rest = bs) ∧
    (∀ (c : Code) (rest : List Byte),
      decodeIn k bs = .ok (c, rest) → c.fits k.formatOf = true ∧ encode c ++ rest = bs) ∧
      (∀ (b : Byte) (ops : List Byte), bs = b :: ops →
        ((decodeOpcode b).format.operandLength ≤ ops.length → ∃ r, decode bs = .ok r) ∧
        ((k.formatOf (decodeOpcode b)).operandLength ≤ ops.length → ∃ r, decodeIn k bs = .ok r))

/-- Decode is total on the 256 opcode bytes and encoding is its inverse; the opcodes without a pattern of their
own are exactly the 105 of the list of rule R115. -/
def Obligations.OpcodeMapOneToOne : Prop :=
  let undefinedOpcodes : List Byte := [
      0x02#8, 0x03#8, 0x04#8, 0x07#8, 0x0B#8, 0x0C#8, 0x0F#8, 0x12#8, 0x13#8, 0x14#8, 0x17#8, 0x1A#8,
      0x1B#8, 0x1C#8, 0x1F#8, 0x22#8, 0x23#8, 0x27#8, 0x2B#8, 0x2F#8, 0x32#8, 0x33#8, 0x34#8, 0x37#8,
      0x3A#8, 0x3B#8, 0x3C#8, 0x3F#8, 0x42#8, 0x43#8, 0x44#8, 0x47#8, 0x4B#8, 0x4F#8, 0x52#8, 0x53#8,
      0x54#8, 0x57#8, 0x5A#8, 0x5B#8, 0x5C#8, 0x5F#8, 0x62#8, 0x63#8, 0x64#8, 0x67#8, 0x6B#8, 0x6F#8,
      0x72#8, 0x73#8, 0x74#8, 0x77#8, 0x7A#8, 0x7B#8, 0x7C#8, 0x7F#8, 0x80#8, 0x82#8, 0x83#8, 0x87#8,
      0x89#8, 0x8B#8, 0x8F#8, 0x92#8, 0x93#8, 0x97#8, 0x9B#8, 0x9C#8, 0x9E#8, 0x9F#8, 0xA3#8, 0xA7#8,
      0xAB#8, 0xAF#8, 0xB2#8, 0xB3#8, 0xB7#8, 0xBB#8, 0xBF#8, 0xC2#8, 0xC3#8, 0xC7#8, 0xCB#8, 0xCF#8,
      0xD2#8, 0xD3#8, 0xD4#8, 0xD7#8, 0xDA#8, 0xDB#8, 0xDC#8, 0xDF#8, 0xE2#8, 0xE3#8, 0xE7#8, 0xEB#8,
      0xEF#8, 0xF2#8, 0xF3#8, 0xF4#8, 0xF7#8, 0xFA#8, 0xFB#8, 0xFC#8, 0xFF#8]
  (∀ b : Byte, encodeOpcode (decodeOpcode b) = b) ∧ (∀ i : Instr, decodeOpcode (encodeOpcode i) = i) ∧
    (∀ b : Byte, (definedMicro (decodeOpcode b)).isNone = true ↔ b ∈ undefinedOpcodes) ∧
    undefinedOpcodes.length = 105 ∧ undefinedOpcodes.Nodup

/-- That one step runs the whole instruction is the model's choice (notes/assumptions/1.md, DESIGN CHOICE): rule
R13 makes one step one tick. With that choice, at an instruction boundary at which the poll takes no interrupt,
if the byte fetched at PC, with the bytes after it, decodes under the configuration to an instruction, the step
is exec of that instruction at that state, with nothing around it; the poll that comes first is rule R420, the
opcode fetched at PC in T1 is rule R131, and that this fetch is an ordinary read, which finds what a memory
region holds there, is rule R81. -/
def Obligations.StepRunsDecoded : Prop :=
  ∀ (s : State) (bs : List Byte) (c : Code) (rest : List Byte),
    s.cfg.wellFormed = true → s.cpu.phase = .fetch → poll (coreView s).cpu = none →
    decodeIn s.cfg (fetchedByte s :: bs) = .ok (c, rest) →
      step s = exec c.instr s ∧ ∀ x, regionByte s.cfg s.mem s.banks s.cpu.pc = some x → fetchedByte s = x

/-- That one step runs the whole sequence is the model's choice (notes/assumptions/1.md, DESIGN CHOICE): rule
R13 makes one step one tick. What the poll takes, RESET over NMI over IRQ, and that the sequence taken runs
instead of a fetch are rules R420, R421 and R422. -/
def Obligations.StepTakesInterrupt : Prop :=
  (∀ u : Cpu,
    (poll u = some .reset ↔ u.pend.resetPending = true) ∧
    (poll u = some .nmi ↔ u.pend.resetPending = false ∧ u.pend.nmiPending = true) ∧
    (poll u = some .irq ↔ u.pend.resetPending = false ∧ u.pend.nmiPending = false ∧ u.pend.irqLatched = true ∧
      u.regs.p.i = false) ∧
    (poll u = none ↔ u.pend.resetPending = false ∧ u.pend.nmiPending = false ∧
      (u.pend.irqLatched = false ∨ u.regs.p.i = true))) ∧
  ∀ (s : State) (k : SeqKind), s.cfg.wellFormed = true → s.cpu.phase = .fetch → poll (coreView s).cpu = some k →
    step s = .next (takeInterrupt k s)

/-- What one step is, is the model's choice (notes/assumptions/1.md, DESIGN CHOICE): rule R13 makes one step one
tick. Whenever a step answers a next state, some positive number of ticks, each of them the boundary, the core
update of rule R420 (none in a tick in which the core idles) and the updates of the other chips, leads from the
same state to the same next state; and as many ticks of rule R13, which take the configuration and what the
outside does at each boundary as inputs, lead there too, on the configuration and the script that stand in the
state (notes/assumptions/2.md and 3.md), but for the script, which they leave and the step has consumed. -/
def Obligations.StepIsTicks : Prop :=
  ∀ s t : State, step s = .next t → ∃ (n : Nat) (u : State), 0 < n ∧ ticks n s = .next t ∧
    ticksOn s.cfg (scriptInputs n s.input) s = .next u ∧ t = u.withInput (s.input.drop n)

/-- What one step is, is the model's choice (notes/assumptions/1.md, DESIGN CHOICE): rule R13 makes one step one
tick, and the model's step runs on to the end of the instruction, of the interrupt sequence, or of one tick of a
halted core. With that choice: whenever a step answers a next state, the core there stands at an instruction
boundary or is halted, and the tick counter is larger than before. -/
def Obligations.StepEndsAtBoundary : Prop :=
  ∀ s t : State, step s = .next t → atBoundary t ∧ s.sched.tickCount < t.sched.tickCount

/-- Every step keeps the invariant `StepInv`. That memory has a canonical form is the model's choice
(notes/assumptions/7.md and 29.md); the line bitset as a function of the state at the end of a tick is
notes/assumptions/35.md; the other parts are rules R310, R312, R322, R325, R333, R359, R372, R373 and R400. -/
def Obligations.StepKeepsInvariant : Prop :=
  ∀ s t : State, StepInv s → step s = .next t → StepInv t

/-- The state after reset meets the invariant that every step keeps. -/
def Obligations.ResetInvariant : Prop :=
  StepInv State.reset

/-- Whenever a step answers a next state, the core has made a list of transactions in order, one in every tick
in which it acts, which with the divider 1 is every tick (none in the tick of a core that stays halted); each
read of an address that a memory region owns returned the byte of the latest write before it, or the content at
the start, each read of an unmapped address the open-bus value, and memory, banked regions included, is
afterwards what the writes leave. -/
def Obligations.StepReplaysMemory : Prop :=
  (∀ s t : State, step s = .next t →
    (∃ tr, Makes s t tr) ∨
      (s.cpu.phase = .halted ∧ t.cpu.phase = .halted ∧ coreTrace t = coreTrace s ∧ t.mem = s.mem ∧
        t.banks = s.banks ∧ t.cfg = s.cfg ∧ t.sched.tickCount = s.sched.tickCount + 1)) ∧
  ∀ (c : Config) (k n : Nat), c.clockRates.core = 1 → afterTurns c k n = n + k

/-- A step leaves the whole configuration as it was: the class of every undefined opcode, the pseudo-behaviour
table and the illegal-opcode action among it. -/
def Obligations.ConfigurationConstant : Prop :=
  ∀ s t : State, step s = .next t → t.cfg = s.cfg

/-- For every configuration: the phase, the sequence kind, the pending flags, the illegal-instruction flag, the
scheduler, the timing generator, the Mixer, the Interface Chips, the floppy controller and the drives at power-
on are as the reset rules state; each register of an Interface Chip has the value of its power-on rule where its
register map gives the register no reset value, and the map's value where it gives one, STATUS and CONTROL
through their bit positions. That the map's reset value goes before that of rule R365, and reaches the bits that
STATUS and CONTROL show, is the model's choice (notes/assumptions/10.md, DESIGN CHOICE). The values the model
chose for what the rules leave unspecified are not part of this statement. -/
def Obligations.PowerOnState : Prop :=
  ∀ c : Config, ∀ s : State, s = State.powerOn c →
    s.cfg = c ∧ s.cpu.phase = .interruptSequence 1 ∧ s.cpu.seqKind = .reset ∧
    s.cpu.pend = ⟨false, false, false, true⟩ ∧ s.cpu.illegal.flag = false ∧
    s.sched.tickCount = 0 ∧ s.sched.unmappedCount = 0 ∧ s.sched.linesOut = [(.reset, .environment)] ∧
    s.sched.linesLatched = [(.reset, .environment)] ∧
    (s.vtg.hcount, s.vtg.vcount, s.vtg.ra, s.vtg.charPhase, s.vtg.ma, s.vtg.rowBase) = (0, 0, 0, 0, 0, 0) ∧
    (s.vtg.hsync, s.vtg.vsync, s.vtg.displayEnable, s.vtg.field) = (false, false, false, false) ∧
    s.vtg.pending = [] ∧ s.vtg.reg = c.vtg.reset ∧
    s.mixer.rowBuf = [] ∧ s.mixer.vsyncPrev = false ∧
    s.mixer.ttx = ⟨c.ttx.fgDefault, c.ttx.bgDefault, false, false, false, false⟩ ∧
    s.ifChips.length = c.ifChips.length ∧ (∀ chip ∈ s.ifChips, chip.queue = [] ∧ chip.extLatch = none) ∧
    (∀ (k : Nat) (l : ParLayout) (line : Line), c.ifChips[k]? = some ⟨.parallel l, line⟩ →
      ∃ (chip : IfChip) (a b : PortState),
      s.ifChips[k]? = some chip ∧ chip.unit = .parallel a b ∧ a.pin = 0xFF#8 ∧ b.pin = 0xFF#8 ∧
      (l.resets.lookup (.data .a) = none → a.out = 0#8) ∧ (l.resets.lookup (.data .b) = none → b.out = 0#8) ∧
      (l.resets.lookup (.ddr .a) = none → a.ddr = 0#8) ∧ (l.resets.lookup (.ddr .b) = none → b.ddr = 0#8) ∧
      (l.resets.lookup .status = none → a.hs = false ∧ b.hs = false) ∧
      (l.resets.lookup .control = none → a.ie = false ∧ b.ie = false ∧ ifIrq chip.unit = false) ∧
      ∀ v, (l.resets.lookup (.data .a) = some v → a.out = v) ∧ (l.resets.lookup (.data .b) = some v → b.out = v) ∧
        (l.resets.lookup (.ddr .a) = some v → a.ddr = v) ∧ (l.resets.lookup (.ddr .b) = some v → b.ddr = v) ∧
        (l.resets.lookup .status = some v → a.hs = v.getLsbD l.hsA ∧ b.hs = v.getLsbD l.hsB) ∧
        (l.resets.lookup .control = some v → a.ie = v.getLsbD l.ieA ∧ b.ie = v.getLsbD l.ieB)) ∧
    (∀ (k : Nat) (l : SerLayout) (line : Line), c.ifChips[k]? = some ⟨.serial l, line⟩ → ∃ (chip : IfChip) (u : Serial),
      s.ifChips[k]? = some chip ∧ chip.unit = .serial u ∧ u.txTimer = 0 ∧
      (l.resets.lookup .status = none → u.txEmpty = true ∧ u.rxFull = false ∧ u.overrun = false) ∧
      (l.resets.lookup .control = none → u.rxIe = false ∧ u.txIe = false ∧ ifIrq chip.unit = false) ∧
      ∀ v, (l.resets.lookup .status = some v →
          u.txEmpty = v.getLsbD l.txEmpty ∧ u.rxFull = v.getLsbD l.rxFull ∧ u.overrun = v.getLsbD l.overrun) ∧
        (l.resets.lookup .control = some v → u.rxIe = v.getLsbD l.rxIe ∧ u.txIe = v.getLsbD l.txIe) ∧
        (l.resets.lookup .txData = some v → u.txData = v) ∧ (l.resets.lookup .rxData = some v → u.rxData = v)) ∧
    s.fdc.state = .idle ∧ s.fdc.cmd = none ∧ s.fdc.result = .none ∧
    (s.fdc.track, s.fdc.sector, s.fdc.drive) = (0#8, 0#8, 0#8) ∧
    (s.fdc.drq, s.fdc.lostData, s.fdc.rejected, s.fdc.irqDone) = (false, false, false, false) ∧
    (s.fdc.delay, s.fdc.byteTimer, s.fdc.byteIndex) = (0, 0, 0) ∧
    s.fdc.currentTrack = List.replicate c.disk.geometry.length 0 ∧ s.drives = c.disk.images

/-- That one step runs the whole sequence is the model's choice (notes/assumptions/1.md); its seven transactions
and what they leave are rules R425, R430 and R432. The addresses are the configuration's: 0x0100 + S and 0xFFFC
by the table of rule R7. A sum past 0xFFFF, which those values do not give, wraps: the model's choice
(notes/assumptions/47.md, DESIGN CHOICE). -/
def Obligations.ResetSequenceStep : Prop :=
  ∀ s : State, s.cfg.wellFormed = true → s.cpu.phase = .interruptSequence 1 → s.cpu.seqKind = .reset →
    ∃ t d e x y z lo hi,
      let p1 := s.cfg.stackBase + s.cpu.regs.s.setWidth 16
      let p2 := s.cfg.stackBase + (s.cpu.regs.s - 1#8).setWidth 16
      let p3 := s.cfg.stackBase + (s.cpu.regs.s - 2#8).setWidth 16
      let status := statusByte s.cpu.regs.p false
      let vector := s.cfg.vectors.reset
      step s = .next t ∧
      Makes s t ([rd s.cpu.pc d, rd s.cpu.pc e] ++
        (if s.cfg.resetStackWrites then [wr p1 (highByte s.cpu.pc), wr p2 (lowByte s.cpu.pc), wr p3 status]
          else [rd p1 x, rd p2 y, rd p3 z]) ++ [rd vector lo, rd (vector + 1#16) hi]) ∧
      t.cpu.regs = { s.cpu.regs with s := s.cpu.regs.s - 3#8, p := { s.cpu.regs.p with i := true } } ∧
      t.cpu.pc = join hi lo ∧ t.cpu.phase = .fetch ∧ t.cpu.seqKind = .reset ∧
      t.cpu.illegal = { s.cpu.illegal with flag := false } ∧ t.cpu.latch = s.cpu.latch ∧
      memoryWritten s t (if s.cfg.resetStackWrites then
        [(p1, highByte s.cpu.pc), (p2, lowByte s.cpu.pc), (p3, status)] else [])

/-- TAX, TAY, TXA, TYA, TSX, TXS, INX, INY, DEX, DEY, the seven flag instructions, NOP and the accumulator
shifts: opcode, two transactions (the opcode and the byte after it, discarded), the registers exactly as the
operation leaves them, PC one further, no byte of memory changed. -/
def Obligations.ImpliedInstructions : Prop :=
  ∀ p ∈ ([
      (0x0A#8, .aslAcc, fun r => { r with a := (shiftLeft r.p r.a).1, p := (shiftLeft r.p r.a).2 }),
      (0x18#8, .clc, fun r => { r with p := { r.p with c := false } }),
      (0x2A#8, .rolAcc, fun r => { r with a := (rotateLeft r.p r.a).1, p := (rotateLeft r.p r.a).2 }),
      (0x38#8, .sec, fun r => { r with p := { r.p with c := true } }),
      (0x4A#8, .lsrAcc, fun r => { r with a := (shiftRight r.p r.a).1, p := (shiftRight r.p r.a).2 }),
      (0x58#8, .cli, fun r => { r with p := { r.p with i := false } }),
      (0x6A#8, .rorAcc, fun r => { r with a := (rotateRight r.p r.a).1, p := (rotateRight r.p r.a).2 }),
      (0x78#8, .sei, fun r => { r with p := { r.p with i := true } }),
      (0x88#8, .dey, fun r => { r with y := r.y - 1#8, p := setNZ r.p (r.y - 1#8) }),
      (0x8A#8, .txa, fun r => { r with a := r.x, p := setNZ r.p r.x }),
      (0x98#8, .tya, fun r => { r with a := r.y, p := setNZ r.p r.y }),
      (0x9A#8, .txs, fun r => { r with s := r.x }),
      (0xA8#8, .tay, fun r => { r with y := r.a, p := setNZ r.p r.a }),
      (0xAA#8, .tax, fun r => { r with x := r.a, p := setNZ r.p r.a }),
      (0xB8#8, .clv, fun r => { r with p := { r.p with v := false } }),
      (0xBA#8, .tsx, fun r => { r with x := r.s, p := setNZ r.p r.s }),
      (0xC8#8, .iny, fun r => { r with y := r.y + 1#8, p := setNZ r.p (r.y + 1#8) }),
      (0xCA#8, .dex, fun r => { r with x := r.x - 1#8, p := setNZ r.p (r.x - 1#8) }),
      (0xD8#8, .cld, fun r => { r with p := { r.p with d := false } }),
      (0xE8#8, .inx, fun r => { r with x := r.x + 1#8, p := setNZ r.p (r.x + 1#8) }),
      (0xEA#8, .nop, fun r => r),
      (0xF8#8, .sed, fun r => { r with p := { r.p with d := true } })] : List (Byte × Instr × (Regs → Regs))),
    decodeOpcode p.1 = p.2.1 ∧ ∀ s : State, ∃ t op d,
      exec p.2.1 s = .next t ∧ Runs s t [rd s.cpu.pc op, rd (s.cpu.pc + 1#16) d] ∧
      t.cpu.regs = p.2.2 s.cpu.regs ∧ t.cpu.pc = s.cpu.pc + 1#16 ∧ t.cpu.latch = { s.cpu.latch with ir := op } ∧
      memorySame s t

/-- LDA, LDX, LDY, ADC, SBC, CMP, CPX, CPY, AND, ORA, EOR immediate: opcode, two transactions, the registers
exactly as the operation on the operand byte leaves them, PC two further, no byte of memory changed. -/
def Obligations.ImmediateReads : Prop :=
  ∀ p ∈ ([
      (0x09#8, .oraImm, fun r m => { r with a := r.a ||| m, p := setNZ r.p (r.a ||| m) }),
      (0x29#8, .andImm, fun r m => { r with a := r.a &&& m, p := setNZ r.p (r.a &&& m) }),
      (0x49#8, .eorImm, fun r m => { r with a := r.a ^^^ m, p := setNZ r.p (r.a ^^^ m) }),
      (0x69#8, .adcImm, opAdc),
      (0xA0#8, .ldyImm, fun r m => { r with y := m, p := setNZ r.p m }),
      (0xA2#8, .ldxImm, fun r m => { r with x := m, p := setNZ r.p m }),
      (0xA9#8, .ldaImm, fun r m => { r with a := m, p := setNZ r.p m }),
      (0xC0#8, .cpyImm, fun r m => { r with p := compareFlags r.p r.y m }),
      (0xC9#8, .cmpImm, fun r m => { r with p := compareFlags r.p r.a m }),
      (0xE0#8, .cpxImm, fun r m => { r with p := compareFlags r.p r.x m }),
      (0xE9#8, .sbcImm, opSbc)] : List (Byte × Instr × (Regs → Byte → Regs))),
    decodeOpcode p.1 = p.2.1 ∧ ∀ s : State, ∃ t op m,
      exec p.2.1 s = .next t ∧ Runs s t [rd s.cpu.pc op, rd (s.cpu.pc + 1#16) m] ∧
      t.cpu.regs = p.2.2 s.cpu.regs m ∧ t.cpu.pc = s.cpu.pc + 2#16 ∧
      t.cpu.latch = { s.cpu.latch with ir := op, dl := m } ∧ memorySame s t

/-- LDA, LDX, LDY, ADC, SBC, CMP, CPX, CPY, AND, ORA, EOR, BIT zero page: opcode, three transactions, the
operand read at the zero-page address, the registers exactly as the operation leaves them, PC two further, no
byte of memory changed. -/
def Obligations.ZeroPageReads : Prop :=
  ∀ p ∈ ([
      (0x05#8, .oraZp, fun r m => { r with a := r.a ||| m, p := setNZ r.p (r.a ||| m) }),
      (0x24#8, .bitZp, fun r m => { r with p := { r.p with z := r.a &&& m == 0#8, n := m.getLsbD 7, v := m.getLsbD 6 } }),
      (0x25#8, .andZp, fun r m => { r with a := r.a &&& m, p := setNZ r.p (r.a &&& m) }),
      (0x45#8, .eorZp, fun r m => { r with a := r.a ^^^ m, p := setNZ r.p (r.a ^^^ m) }),
      (0x65#8, .adcZp, opAdc),
      (0xA4#8, .ldyZp, fun r m => { r with y := m, p := setNZ r.p m }),
      (0xA5#8, .ldaZp, fun r m => { r with a := m, p := setNZ r.p m }),
      (0xA6#8, .ldxZp, fun r m => { r with x := m, p := setNZ r.p m }),
      (0xC4#8, .cpyZp, fun r m => { r with p := compareFlags r.p r.y m }),
      (0xC5#8, .cmpZp, fun r m => { r with p := compareFlags r.p r.a m }),
      (0xE4#8, .cpxZp, fun r m => { r with p := compareFlags r.p r.x m }),
      (0xE5#8, .sbcZp, opSbc)] : List (Byte × Instr × (Regs → Byte → Regs))),
    decodeOpcode p.1 = p.2.1 ∧ ∀ s : State, ∃ t op lo m,
      exec p.2.1 s = .next t ∧ Runs s t [rd s.cpu.pc op, rd (s.cpu.pc + 1#16) lo, rd (eaZeroPage lo) m] ∧
      t.cpu.regs = p.2.2 s.cpu.regs m ∧ t.cpu.pc = s.cpu.pc + 2#16 ∧
      t.cpu.latch = { s.cpu.latch with ir := op, adl := lo, dl := m } ∧ memorySame s t

/-- LDA, LDY, ADC, SBC, CMP, AND, ORA, EOR zero page indexed by X and LDX zero page indexed by Y: opcode, four
transactions with the discarded read of the unindexed address, the operand read at the address whose low byte is
the sum modulo 256, the registers exactly as the operation leaves them, PC two further, no byte of memory
changed. -/
def Obligations.ZeroPageIndexedReads : Prop :=
  ∀ p ∈ ([
      (0x15#8, .oraZpx, .x, fun r m => { r with a := r.a ||| m, p := setNZ r.p (r.a ||| m) }),
      (0x35#8, .andZpx, .x, fun r m => { r with a := r.a &&& m, p := setNZ r.p (r.a &&& m) }),
      (0x55#8, .eorZpx, .x, fun r m => { r with a := r.a ^^^ m, p := setNZ r.p (r.a ^^^ m) }),
      (0x75#8, .adcZpx, .x, opAdc),
      (0xB4#8, .ldyZpx, .x, fun r m => { r with y := m, p := setNZ r.p m }),
      (0xB5#8, .ldaZpx, .x, fun r m => { r with a := m, p := setNZ r.p m }),
      (0xB6#8, .ldxZpy, .y, fun r m => { r with x := m, p := setNZ r.p m }),
      (0xD5#8, .cmpZpx, .x, fun r m => { r with p := compareFlags r.p r.a m }),
      (0xF5#8, .sbcZpx, .x, opSbc)] : List (Byte × Instr × Index × (Regs → Byte → Regs))),
    decodeOpcode p.1 = p.2.1 ∧ ∀ s : State, ∃ t op lo d m,
      exec p.2.1 s = .next t ∧
      Runs s t [rd s.cpu.pc op, rd (s.cpu.pc + 1#16) lo, rd (eaZeroPage lo) d,
        rd (eaZeroPageIndexed lo (indexOf s.cpu.regs p.2.2.1)) m] ∧
      t.cpu.regs = p.2.2.2 s.cpu.regs m ∧ t.cpu.pc = s.cpu.pc + 2#16 ∧ memorySame s t

/-- LDA, LDX, LDY, ADC, SBC, CMP, CPX, CPY, AND, ORA, EOR, BIT absolute: opcode, four transactions, the operand
read at the address of the two operand bytes, low byte first, the registers exactly as the operation leaves
them, PC three further, no byte of memory changed. -/
def Obligations.AbsoluteReads : Prop :=
  ∀ p ∈ ([
      (0x0D#8, .oraAbs, fun r m => { r with a := r.a ||| m, p := setNZ r.p (r.a ||| m) }),
      (0x2C#8, .bitAbs, fun r m => { r with p := { r.p with z := r.a &&& m == 0#8, n := m.getLsbD 7, v := m.getLsbD 6 } }),
      (0x2D#8, .andAbs, fun r m => { r with a := r.a &&& m, p := setNZ r.p (r.a &&& m) }),
      (0x4D#8, .eorAbs, fun r m => { r with a := r.a ^^^ m, p := setNZ r.p (r.a ^^^ m) }),
      (0x6D#8, .adcAbs, opAdc),
      (0xAC#8, .ldyAbs, fun r m => { r with y := m, p := setNZ r.p m }),
      (0xAD#8, .ldaAbs, fun r m => { r with a := m, p := setNZ r.p m }),
      (0xAE#8, .ldxAbs, fun r m => { r with x := m, p := setNZ r.p m }),
      (0xCC#8, .cpyAbs, fun r m => { r with p := compareFlags r.p r.y m }),
      (0xCD#8, .cmpAbs, fun r m => { r with p := compareFlags r.p r.a m }),
      (0xEC#8, .cpxAbs, fun r m => { r with p := compareFlags r.p r.x m }),
      (0xED#8, .sbcAbs, opSbc)] : List (Byte × Instr × (Regs → Byte → Regs))),
    decodeOpcode p.1 = p.2.1 ∧ ∀ s : State, ∃ t op lo hi m,
      exec p.2.1 s = .next t ∧
      Runs s t [rd s.cpu.pc op, rd (s.cpu.pc + 1#16) lo, rd (s.cpu.pc + 2#16) hi, rd (eaAbsolute lo hi) m] ∧
      t.cpu.regs = p.2.2 s.cpu.regs m ∧ t.cpu.pc = s.cpu.pc + 3#16 ∧
      t.cpu.latch = { s.cpu.latch with ir := op, adl := lo, adh := hi, dl := m } ∧ memorySame s t

/-- LDA, LDX, LDY, ADC, SBC, CMP, AND, ORA, EOR absolute indexed by X or Y: opcode; four transactions when the
low byte and the index do not carry, five with a discarded read in the wrong page when they do; the operand read
at the 16-bit sum, the registers exactly as the operation leaves them, PC three further, no byte of memory
changed. -/
def Obligations.AbsoluteIndexedReads : Prop :=
  ∀ p ∈ ([
      (0x19#8, .oraAby, .y, fun r m => { r with a := r.a ||| m, p := setNZ r.p (r.a ||| m) }),
      (0x1D#8, .oraAbx, .x, fun r m => { r with a := r.a ||| m, p := setNZ r.p (r.a ||| m) }),
      (0x39#8, .andAby, .y, fun r m => { r with a := r.a &&& m, p := setNZ r.p (r.a &&& m) }),
      (0x3D#8, .andAbx, .x, fun r m => { r with a := r.a &&& m, p := setNZ r.p (r.a &&& m) }),
      (0x59#8, .eorAby, .y, fun r m => { r with a := r.a ^^^ m, p := setNZ r.p (r.a ^^^ m) }),
      (0x5D#8, .eorAbx, .x, fun r m => { r with a := r.a ^^^ m, p := setNZ r.p (r.a ^^^ m) }),
      (0x79#8, .adcAby, .y, opAdc),
      (0x7D#8, .adcAbx, .x, opAdc),
      (0xB9#8, .ldaAby, .y, fun r m => { r with a := m, p := setNZ r.p m }),
      (0xBC#8, .ldyAbx, .x, fun r m => { r with y := m, p := setNZ r.p m }),
      (0xBD#8, .ldaAbx, .x, fun r m => { r with a := m, p := setNZ r.p m }),
      (0xBE#8, .ldxAby, .y, fun r m => { r with x := m, p := setNZ r.p m }),
      (0xD9#8, .cmpAby, .y, fun r m => { r with p := compareFlags r.p r.a m }),
      (0xDD#8, .cmpAbx, .x, fun r m => { r with p := compareFlags r.p r.a m }),
      (0xF9#8, .sbcAby, .y, opSbc),
      (0xFD#8, .sbcAbx, .x, opSbc)] : List (Byte × Instr × Index × (Regs → Byte → Regs))),
    decodeOpcode p.1 = p.2.1 ∧ ∀ s : State, ∃ t op lo hi d m,
      let i := indexOf s.cpu.regs p.2.2.1
      let crossed := 256 ≤ lo.toNat + i.toNat
      exec p.2.1 s = .next t ∧
      Runs s t ([rd s.cpu.pc op, rd (s.cpu.pc + 1#16) lo, rd (s.cpu.pc + 2#16) hi] ++
        (if crossed then [rd (eaUncorrected lo hi i) d] else []) ++ [rd (eaIndexed lo hi i) m]) ∧
      (crossed ↔ highByte (eaAbsolute lo hi) ≠ highByte (eaIndexed lo hi i)) ∧
      t.cpu.regs = p.2.2.2 s.cpu.regs m ∧ t.cpu.pc = s.cpu.pc + 3#16 ∧
      t.cpu.latch = { s.cpu.latch with
        ir := op, adl := lo + i, adh := highByte (eaIndexed lo hi i), dl := m, carryFix := decide crossed } ∧
      memorySame s t

/-- LDA, ADC, SBC, CMP, AND, ORA, EOR with the operand (zp,X): opcode, six transactions with the discarded read
of the unindexed pointer, both pointer bytes from page zero, the operand read at the address they give, the
registers exactly as the operation leaves them, PC two further, no byte of memory changed. -/
def Obligations.IndexedIndirectReads : Prop :=
  ∀ p ∈ ([
      (0x01#8, .oraIzx, fun r m => { r with a := r.a ||| m, p := setNZ r.p (r.a ||| m) }),
      (0x21#8, .andIzx, fun r m => { r with a := r.a &&& m, p := setNZ r.p (r.a &&& m) }),
      (0x41#8, .eorIzx, fun r m => { r with a := r.a ^^^ m, p := setNZ r.p (r.a ^^^ m) }),
      (0x61#8, .adcIzx, opAdc),
      (0xA1#8, .ldaIzx, fun r m => { r with a := m, p := setNZ r.p m }),
      (0xC1#8, .cmpIzx, fun r m => { r with p := compareFlags r.p r.a m }),
      (0xE1#8, .sbcIzx, opSbc)] : List (Byte × Instr × (Regs → Byte → Regs))),
    decodeOpcode p.1 = p.2.1 ∧ ∀ s : State, ∃ t op zp d lo hi m,
      let q := pointerIzx zp s.cpu.regs.x
      exec p.2.1 s = .next t ∧
      Runs s t [rd s.cpu.pc op, rd (s.cpu.pc + 1#16) zp, rd (eaZeroPage zp) d, rd (eaZeroPage q) lo,
        rd (eaZeroPage (q + 1#8)) hi, rd (eaAbsolute lo hi) m] ∧
      t.cpu.regs = p.2.2 s.cpu.regs m ∧ t.cpu.pc = s.cpu.pc + 2#16 ∧ memorySame s t

/-- LDA, ADC, SBC, CMP, AND, ORA, EOR with the operand (zp),Y: opcode; five transactions, six with a discarded
read in the wrong page when the low byte of the base and Y carry; both pointer bytes from page zero, the operand
read at the 16-bit sum, the registers exactly as the operation leaves them, PC two further, no byte of memory
changed. -/
def Obligations.IndirectIndexedReads : Prop :=
  ∀ p ∈ ([
      (0x11#8, .oraIzy, fun r m => { r with a := r.a ||| m, p := setNZ r.p (r.a ||| m) }),
      (0x31#8, .andIzy, fun r m => { r with a := r.a &&& m, p := setNZ r.p (r.a &&& m) }),
      (0x51#8, .eorIzy, fun r m => { r with a := r.a ^^^ m, p := setNZ r.p (r.a ^^^ m) }),
      (0x71#8, .adcIzy, opAdc),
      (0xB1#8, .ldaIzy, fun r m => { r with a := m, p := setNZ r.p m }),
      (0xD1#8, .cmpIzy, fun r m => { r with p := compareFlags r.p r.a m }),
      (0xF1#8, .sbcIzy, opSbc)] : List (Byte × Instr × (Regs → Byte → Regs))),
    decodeOpcode p.1 = p.2.1 ∧ ∀ s : State, ∃ t op zp lo hi d m,
      let y := s.cpu.regs.y
      exec p.2.1 s = .next t ∧
      Runs s t ([rd s.cpu.pc op, rd (s.cpu.pc + 1#16) zp, rd (eaZeroPage zp) lo, rd (eaZeroPage (zp + 1#8)) hi] ++
        (if 256 ≤ lo.toNat + y.toNat then [rd (eaUncorrected lo hi y) d] else []) ++ [rd (eaIndexed lo hi y) m]) ∧
      t.cpu.regs = p.2.2 s.cpu.regs m ∧ t.cpu.pc = s.cpu.pc + 2#16 ∧ memorySame s t

/-- STA, STX, STY zero page in three transactions, STA and STY zero page indexed by X and STX zero page indexed
by Y in four: the register is written to the zero-page address, every other byte of memory is unchanged, every
register and flag is unchanged, PC two further. -/
def Obligations.ZeroPageStores : Prop :=
  (∀ p ∈ ([
      (0x84#8, .styZp, fun r => r.y),
      (0x85#8, .staZp, fun r => r.a),
      (0x86#8, .stxZp, fun r => r.x)] : List (Byte × Instr × (Regs → Byte))),
    decodeOpcode p.1 = p.2.1 ∧ ∀ s : State, ∃ t op lo,
      exec p.2.1 s = .next t ∧
      Runs s t [rd s.cpu.pc op, rd (s.cpu.pc + 1#16) lo, wr (eaZeroPage lo) (p.2.2 s.cpu.regs)] ∧
      t.cpu.regs = s.cpu.regs ∧ t.cpu.pc = s.cpu.pc + 2#16 ∧ t.cpu.latch = { s.cpu.latch with ir := op, adl := lo } ∧
      memoryWritten s t [(eaZeroPage lo, p.2.2 s.cpu.regs)]) ∧
  (∀ p ∈ ([
      (0x94#8, .styZpx, .x, fun r => r.y),
      (0x95#8, .staZpx, .x, fun r => r.a),
      (0x96#8, .stxZpy, .y, fun r => r.x)] : List (Byte × Instr × Index × (Regs → Byte))),
    decodeOpcode p.1 = p.2.1 ∧ ∀ s : State, ∃ t op lo d,
      let ea := eaZeroPageIndexed lo (indexOf s.cpu.regs p.2.2.1)
      exec p.2.1 s = .next t ∧
      Runs s t [rd s.cpu.pc op, rd (s.cpu.pc + 1#16) lo, rd (eaZeroPage lo) d, wr ea (p.2.2.2 s.cpu.regs)] ∧
      t.cpu.regs = s.cpu.regs ∧ t.cpu.pc = s.cpu.pc + 2#16 ∧ memoryWritten s t [(ea, p.2.2.2 s.cpu.regs)])

/-- STA, STX, STY absolute: opcode, four transactions, the register is written to the address of the two operand
bytes, every other byte of memory, every register and every flag is unchanged, PC three further. -/
def Obligations.AbsoluteStores : Prop :=
  ∀ p ∈ ([
      (0x8C#8, .styAbs, fun r => r.y),
      (0x8D#8, .staAbs, fun r => r.a),
      (0x8E#8, .stxAbs, fun r => r.x)] : List (Byte × Instr × (Regs → Byte))),
    decodeOpcode p.1 = p.2.1 ∧ ∀ s : State, ∃ t op lo hi,
      let ea := eaAbsolute lo hi
      exec p.2.1 s = .next t ∧
      Runs s t [rd s.cpu.pc op, rd (s.cpu.pc + 1#16) lo, rd (s.cpu.pc + 2#16) hi, wr ea (p.2.2 s.cpu.regs)] ∧
      t.cpu.regs = s.cpu.regs ∧ t.cpu.pc = s.cpu.pc + 3#16 ∧ memoryWritten s t [(ea, p.2.2 s.cpu.regs)]

/-- STA absolute indexed by X or Y: opcode, five transactions whether or not a page is crossed, the fourth a
discarded read of the address whose high byte is not yet corrected; A is written to the 16-bit sum, every other
byte of memory, every register and every flag is unchanged, PC three further. -/
def Obligations.AbsoluteIndexedStores : Prop :=
  ∀ p ∈ ([
      (0x99#8, .staAby, .y, fun r => r.a),
      (0x9D#8, .staAbx, .x, fun r => r.a)] : List (Byte × Instr × Index × (Regs → Byte))),
    decodeOpcode p.1 = p.2.1 ∧ ∀ s : State, ∃ t op lo hi d,
      let i := indexOf s.cpu.regs p.2.2.1
      let ea := eaIndexed lo hi i
      exec p.2.1 s = .next t ∧
      Runs s t [rd s.cpu.pc op, rd (s.cpu.pc + 1#16) lo, rd (s.cpu.pc + 2#16) hi, rd (eaUncorrected lo hi i) d,
        wr ea (p.2.2.2 s.cpu.regs)] ∧
      t.cpu.regs = s.cpu.regs ∧ t.cpu.pc = s.cpu.pc + 3#16 ∧
      t.cpu.latch = { s.cpu.latch with
        ir := op, adl := lo + i, adh := highByte ea, carryFix := decide (256 ≤ lo.toNat + i.toNat) } ∧
      memoryWritten s t [(ea, p.2.2.2 s.cpu.regs)]

/-- STA (zp,X) and STA (zp),Y: opcode, six transactions, A is written to the address that the pointer in page
zero gives, with Y added for the second; every other byte of memory, every register and every flag is unchanged,
PC two further. -/
def Obligations.IndirectStores : Prop :=
  decodeOpcode 0x81#8 = .staIzx ∧ decodeOpcode 0x91#8 = .staIzy ∧
  (∀ s : State, ∃ t op zp d lo hi,
      let q := pointerIzx zp s.cpu.regs.x
      let ea := eaAbsolute lo hi
      exec .staIzx s = .next t ∧
      Runs s t [rd s.cpu.pc op, rd (s.cpu.pc + 1#16) zp, rd (eaZeroPage zp) d, rd (eaZeroPage q) lo,
        rd (eaZeroPage (q + 1#8)) hi, wr ea s.cpu.regs.a] ∧
      t.cpu.regs = s.cpu.regs ∧ t.cpu.pc = s.cpu.pc + 2#16 ∧ memoryWritten s t [(ea, s.cpu.regs.a)]) ∧
  (∀ s : State, ∃ t op zp lo hi d,
      let y := s.cpu.regs.y
      let ea := eaIndexed lo hi y
      exec .staIzy s = .next t ∧
      Runs s t [rd s.cpu.pc op, rd (s.cpu.pc + 1#16) zp, rd (eaZeroPage zp) lo, rd (eaZeroPage (zp + 1#8)) hi,
        rd (eaUncorrected lo hi y) d, wr ea s.cpu.regs.a] ∧
      t.cpu.regs = s.cpu.regs ∧ t.cpu.pc = s.cpu.pc + 2#16 ∧ memoryWritten s t [(ea, s.cpu.regs.a)])

/-- ASL, LSR, ROL, ROR, INC, DEC zero page in five transactions and zero page indexed by X in six: the operand
is read, written back unmodified, then written as the operation makes it; the flags are those of the operation,
every other register is unchanged, every other byte of memory is unchanged, PC two further. -/
def Obligations.ZeroPageModify : Prop :=
  (∀ p ∈ ([
      (0x06#8, .aslZp, shiftLeft),
      (0x26#8, .rolZp, rotateLeft),
      (0x46#8, .lsrZp, shiftRight),
      (0x66#8, .rorZp, rotateRight),
      (0xC6#8, .decZp, fun p v => (v - 1#8, setNZ p (v - 1#8))),
      (0xE6#8, .incZp, fun p v => (v + 1#8, setNZ p (v + 1#8)))] : List (Byte × Instr × (Flags → Byte → Byte × Flags))),
    decodeOpcode p.1 = p.2.1 ∧ ∀ s : State, ∃ t op lo v,
      let ea := eaZeroPage lo
      let r := p.2.2 s.cpu.regs.p v
      exec p.2.1 s = .next t ∧
      Runs s t [rd s.cpu.pc op, rd (s.cpu.pc + 1#16) lo, rd ea v, wr ea v, wr ea r.1] ∧
      t.cpu.regs = { s.cpu.regs with p := r.2 } ∧ t.cpu.pc = s.cpu.pc + 2#16 ∧
      t.cpu.latch = { s.cpu.latch with ir := op, adl := lo, dl := v } ∧ memoryWritten s t [(ea, r.1)]) ∧
  (∀ p ∈ ([
      (0x16#8, .aslZpx, shiftLeft),
      (0x36#8, .rolZpx, rotateLeft),
      (0x56#8, .lsrZpx, shiftRight),
      (0x76#8, .rorZpx, rotateRight),
      (0xD6#8, .decZpx, fun p v => (v - 1#8, setNZ p (v - 1#8))),
      (0xF6#8, .incZpx, fun p v => (v + 1#8, setNZ p (v + 1#8)))] : List (Byte × Instr × (Flags → Byte → Byte × Flags))),
    decodeOpcode p.1 = p.2.1 ∧ ∀ s : State, ∃ t op lo d v,
      let ea := eaZeroPageIndexed lo s.cpu.regs.x
      let r := p.2.2 s.cpu.regs.p v
      exec p.2.1 s = .next t ∧
      Runs s t [rd s.cpu.pc op, rd (s.cpu.pc + 1#16) lo, rd (eaZeroPage lo) d, rd ea v, wr ea v, wr ea r.1] ∧
      t.cpu.regs = { s.cpu.regs with p := r.2 } ∧ t.cpu.pc = s.cpu.pc + 2#16 ∧ memoryWritten s t [(ea, r.1)])

/-- ASL, LSR, ROL, ROR, INC, DEC absolute: opcode, six transactions, the operand read, written back unmodified,
then written as the operation makes it; the flags are those of the operation, every other register and every
other byte of memory is unchanged, PC three further. -/
def Obligations.AbsoluteModify : Prop :=
  ∀ p ∈ ([
      (0x0E#8, .aslAbs, shiftLeft),
      (0x2E#8, .rolAbs, rotateLeft),
      (0x4E#8, .lsrAbs, shiftRight),
      (0x6E#8, .rorAbs, rotateRight),
      (0xCE#8, .decAbs, fun p v => (v - 1#8, setNZ p (v - 1#8))),
      (0xEE#8, .incAbs, fun p v => (v + 1#8, setNZ p (v + 1#8)))] : List (Byte × Instr × (Flags → Byte → Byte × Flags))),
    decodeOpcode p.1 = p.2.1 ∧ ∀ s : State, ∃ t op lo hi v,
      let ea := eaAbsolute lo hi
      let r := p.2.2 s.cpu.regs.p v
      exec p.2.1 s = .next t ∧
      Runs s t [rd s.cpu.pc op, rd (s.cpu.pc + 1#16) lo, rd (s.cpu.pc + 2#16) hi, rd ea v, wr ea v, wr ea r.1] ∧
      t.cpu.regs = { s.cpu.regs with p := r.2 } ∧ t.cpu.pc = s.cpu.pc + 3#16 ∧ memoryWritten s t [(ea, r.1)]

/-- ASL, LSR, ROL, ROR, INC, DEC absolute indexed by X: opcode, seven transactions whether or not a page is
crossed, with the discarded read of the uncorrected address, the operand read at the 16-bit sum, written back
unmodified, then written as the operation makes it; the flags are those of the operation, every other register
and every other byte of memory is unchanged, PC three further. -/
def Obligations.AbsoluteIndexedModify : Prop :=
  ∀ p ∈ ([
      (0x1E#8, .aslAbx, shiftLeft),
      (0x3E#8, .rolAbx, rotateLeft),
      (0x5E#8, .lsrAbx, shiftRight),
      (0x7E#8, .rorAbx, rotateRight),
      (0xDE#8, .decAbx, fun p v => (v - 1#8, setNZ p (v - 1#8))),
      (0xFE#8, .incAbx, fun p v => (v + 1#8, setNZ p (v + 1#8)))] : List (Byte × Instr × (Flags → Byte → Byte × Flags))),
    decodeOpcode p.1 = p.2.1 ∧ ∀ s : State, ∃ t op lo hi d v,
      let x := s.cpu.regs.x
      let ea := eaIndexed lo hi x
      let r := p.2.2 s.cpu.regs.p v
      exec p.2.1 s = .next t ∧
      Runs s t [rd s.cpu.pc op, rd (s.cpu.pc + 1#16) lo, rd (s.cpu.pc + 2#16) hi, rd (eaUncorrected lo hi x) d,
        rd ea v, wr ea v, wr ea r.1] ∧
      t.cpu.regs = { s.cpu.regs with p := r.2 } ∧ t.cpu.pc = s.cpu.pc + 3#16 ∧
      t.cpu.latch = { s.cpu.latch with
        ir := op, adl := lo + x, adh := highByte ea, dl := v, carryFix := decide (256 ≤ lo.toNat + x.toNat) } ∧
      memoryWritten s t [(ea, r.1)]

/-- BCC, BCS, BEQ, BNE, BMI, BPL, BVC, BVS: with the condition false, two transactions and PC two further; with
it true, PC at the sum of that address and the sign-extended offset, in three transactions when the high byte is
the same and four when it differs, the extra ones discarded reads; no register, no flag and no byte of memory
changes. -/
def Obligations.Branches : Prop :=
  ∀ p ∈ ([
      (0x10#8, .bpl, fun p => !p.n),
      (0x30#8, .bmi, fun p => p.n),
      (0x50#8, .bvc, fun p => !p.v),
      (0x70#8, .bvs, fun p => p.v),
      (0x90#8, .bcc, fun p => !p.c),
      (0xB0#8, .bcs, fun p => p.c),
      (0xD0#8, .bne, fun p => !p.z),
      (0xF0#8, .beq, fun p => p.z)] : List (Byte × Instr × (Flags → Bool))),
    decodeOpcode p.1 = p.2.1 ∧ ∀ s : State, ∃ t op d x y,
      let next := s.cpu.pc + 2#16
      let target := next + d.signExtend 16
      let taken := p.2.2 s.cpu.regs.p = true
      let far := highByte target ≠ highByte next
      exec p.2.1 s = .next t ∧
      Runs s t ([rd s.cpu.pc op, rd (s.cpu.pc + 1#16) d] ++ (if taken then [rd next x] else []) ++
        (if taken ∧ far then [rd (join (highByte next) (lowByte target)) y] else [])) ∧
      t.cpu.pc = (if taken then target else next) ∧ t.cpu.regs = s.cpu.regs ∧
      t.cpu.latch = { s.cpu.latch with
        ir := op, dl := d, carryFix := if taken then decide far else s.cpu.latch.carryFix } ∧ memorySame s t

/-- PHA and PHP write A or the status byte with bits 5 and 4 set to the stack in three transactions and
decrement S; PLA and PLP read the stack at the incremented S in four transactions, PLA into A with N and Z, PLP
into all six flags; the status byte pushed is N, V, 1, 1, D, I, Z, C from bit 7 down; nothing else changes, PC
one further. STACK_BASE is a parameter of the configuration; 0x0100 is the value of the table of rule R7. A sum
past 0xFFFF, which that value does not give, wraps: the model's choice (notes/assumptions/47.md, DESIGN CHOICE).
-/
def Obligations.StackInstructions : Prop :=
  Config.default.stackBase = 0x0100#16 ∧
  (∀ p : Flags, (List.range 8).map (statusByte p true).getLsbD = [p.c, p.z, p.i, p.d, true, true, p.v, p.n]) ∧
  (∀ p ∈ ([
      (0x08#8, .php, fun r => statusByte r.p true),
      (0x48#8, .pha, fun r => r.a)] : List (Byte × Instr × (Regs → Byte))),
    decodeOpcode p.1 = p.2.1 ∧ ∀ s : State, ∃ t op d,
      let ea := s.cfg.stackBase + s.cpu.regs.s.setWidth 16
      exec p.2.1 s = .next t ∧
      Runs s t [rd s.cpu.pc op, rd (s.cpu.pc + 1#16) d, wr ea (p.2.2 s.cpu.regs)] ∧
      t.cpu.regs = { s.cpu.regs with s := s.cpu.regs.s - 1#8 } ∧ t.cpu.pc = s.cpu.pc + 1#16 ∧
      t.cpu.latch = { s.cpu.latch with ir := op } ∧ memoryWritten s t [(ea, p.2.2 s.cpu.regs)]) ∧
  (∀ p ∈ ([
      (0x28#8, .plp, fun r m => { r with p := ⟨m.getLsbD 7, m.getLsbD 6, m.getLsbD 3, m.getLsbD 2, m.getLsbD 1, m.getLsbD 0⟩ }),
      (0x68#8, .pla, fun r m => { r with a := m, p := setNZ r.p m })] : List (Byte × Instr × (Regs → Byte → Regs))),
    decodeOpcode p.1 = p.2.1 ∧ ∀ s : State, ∃ t op d e m,
      exec p.2.1 s = .next t ∧
      Runs s t [rd s.cpu.pc op, rd (s.cpu.pc + 1#16) d, rd (s.cfg.stackBase + s.cpu.regs.s.setWidth 16) e,
        rd (s.cfg.stackBase + (s.cpu.regs.s + 1#8).setWidth 16) m] ∧
      t.cpu.regs = p.2.2 { s.cpu.regs with s := s.cpu.regs.s + 1#8 } m ∧ t.cpu.pc = s.cpu.pc + 1#16 ∧
      t.cpu.latch = { s.cpu.latch with ir := op, dl := m } ∧ memorySame s t)

/-- JSR in six transactions: the address of its third byte is pushed, high byte first, then PC is the operand,
whose high byte is read last. RTS in six transactions: PC is the pulled address plus one, S two more. No flag
and no other register changes, and no byte of memory but the two pushed. STACK_BASE is a parameter of the
configuration; 0x0100 is the value of the table of rule R7. A sum past 0xFFFF, which that value does not give,
wraps: the model's choice (notes/assumptions/47.md, DESIGN CHOICE). -/
def Obligations.Subroutines : Prop :=
  Config.default.stackBase = 0x0100#16 ∧
  decodeOpcode 0x20#8 = .jsr ∧ decodeOpcode 0x60#8 = .rts ∧
  (∀ s : State, ∃ t op lo d hi,
      let r := s.cpu.pc + 2#16
      let p1 := s.cfg.stackBase + s.cpu.regs.s.setWidth 16
      let p2 := s.cfg.stackBase + (s.cpu.regs.s - 1#8).setWidth 16
      exec .jsr s = .next t ∧
      Runs s t [rd s.cpu.pc op, rd (s.cpu.pc + 1#16) lo, rd p1 d, wr p1 (highByte r), wr p2 (lowByte r), rd r hi] ∧
      t.cpu.regs = { s.cpu.regs with s := s.cpu.regs.s - 2#8 } ∧ t.cpu.pc = join hi lo ∧
      t.cpu.latch = { s.cpu.latch with ir := op, adl := lo, adh := hi } ∧
      memoryWritten s t [(p1, highByte r), (p2, lowByte r)]) ∧
  (∀ s : State, ∃ t op d e lo hi x,
      exec .rts s = .next t ∧
      Runs s t [rd s.cpu.pc op, rd (s.cpu.pc + 1#16) d, rd (s.cfg.stackBase + s.cpu.regs.s.setWidth 16) e,
        rd (s.cfg.stackBase + (s.cpu.regs.s + 1#8).setWidth 16) lo,
        rd (s.cfg.stackBase + (s.cpu.regs.s + 2#8).setWidth 16) hi, rd (join hi lo) x] ∧
      t.cpu.regs = { s.cpu.regs with s := s.cpu.regs.s + 2#8 } ∧ t.cpu.pc = join hi lo + 1#16 ∧
      t.cpu.latch = { s.cpu.latch with ir := op } ∧ memorySame s t)

/-- RTI in six transactions: all six flags from the pulled status byte, PC the pulled address with nothing
added, S three more; no other register, and no byte of memory, changes. STACK_BASE is a parameter of the
configuration; 0x0100 is the value of the table of rule R7. A sum past 0xFFFF, which that value does not give,
wraps: the model's choice (notes/assumptions/47.md, DESIGN CHOICE). -/
def Obligations.ReturnFromInterrupt : Prop :=
  Config.default.stackBase = 0x0100#16 ∧
  decodeOpcode 0x40#8 = .rti ∧ ∀ s : State, ∃ t op d e b lo hi,
    exec .rti s = .next t ∧
    Runs s t [rd s.cpu.pc op, rd (s.cpu.pc + 1#16) d, rd (s.cfg.stackBase + s.cpu.regs.s.setWidth 16) e,
      rd (s.cfg.stackBase + (s.cpu.regs.s + 1#8).setWidth 16) b,
      rd (s.cfg.stackBase + (s.cpu.regs.s + 2#8).setWidth 16) lo,
      rd (s.cfg.stackBase + (s.cpu.regs.s + 3#8).setWidth 16) hi] ∧
    t.cpu.regs = { s.cpu.regs with
      s := s.cpu.regs.s + 3#8
      p := ⟨b.getLsbD 7, b.getLsbD 6, b.getLsbD 3, b.getLsbD 2, b.getLsbD 1, b.getLsbD 0⟩ } ∧
    t.cpu.pc = join hi lo ∧ t.cpu.latch = { s.cpu.latch with ir := op } ∧ memorySame s t

/-- BRK in seven transactions: the opcode address plus two is pushed, high byte first, then the status byte with
bits 5 and 4 set; I is set, no other flag changes; PC is the content of the IRQ vector, 0xFFFE; no byte of
memory but the three pushed changes. STACK_BASE and the vectors are parameters of the configuration; the values
stated first are those of the table of rule R7. A sum past 0xFFFF, which those values do not give, wraps: the
model's choice (notes/assumptions/47.md, DESIGN CHOICE). -/
def Obligations.BreakInstruction : Prop :=
  Config.default.stackBase = 0x0100#16 ∧ Config.default.vectors.irq = 0xFFFE#16 ∧
  decodeOpcode 0x00#8 = .brk ∧ ∀ s : State, ∃ t op d lo hi,
    let r := s.cpu.pc + 2#16
    let p1 := s.cfg.stackBase + s.cpu.regs.s.setWidth 16
    let p2 := s.cfg.stackBase + (s.cpu.regs.s - 1#8).setWidth 16
    let p3 := s.cfg.stackBase + (s.cpu.regs.s - 2#8).setWidth 16
    let status := statusByte s.cpu.regs.p true
    exec .brk s = .next t ∧
    Runs s t [rd s.cpu.pc op, rd (s.cpu.pc + 1#16) d, wr p1 (highByte r), wr p2 (lowByte r), wr p3 status,
      rd s.cfg.vectors.irq lo, rd (s.cfg.vectors.irq + 1#16) hi] ∧
    t.cpu.regs = { s.cpu.regs with s := s.cpu.regs.s - 3#8, p := { s.cpu.regs.p with i := true } } ∧
    t.cpu.pc = join hi lo ∧ t.cpu.latch = { s.cpu.latch with ir := op } ∧
    memoryWritten s t [(p1, highByte r), (p2, lowByte r), (p3, status)]

/-- JMP absolute in three transactions and JMP indirect in five: PC is the operand, or the content of the
pointer whose second byte is read in the same page; no register, no flag and no byte of memory changes. -/
def Obligations.Jumps : Prop :=
  decodeOpcode 0x4C#8 = .jmpAbs ∧ decodeOpcode 0x6C#8 = .jmpInd ∧
  (∀ s : State, ∃ t op lo hi,
      exec .jmpAbs s = .next t ∧
      Runs s t [rd s.cpu.pc op, rd (s.cpu.pc + 1#16) lo, rd (s.cpu.pc + 2#16) hi] ∧
      t.cpu.regs = s.cpu.regs ∧ t.cpu.pc = join hi lo ∧
      t.cpu.latch = { s.cpu.latch with ir := op, adl := lo, adh := hi } ∧ memorySame s t) ∧
  (∀ s : State, ∃ t op lo hi tl th,
      exec .jmpInd s = .next t ∧
      Runs s t [rd s.cpu.pc op, rd (s.cpu.pc + 1#16) lo, rd (s.cpu.pc + 2#16) hi, rd (join hi lo) tl,
        rd (join hi (lo + 1#8)) th] ∧
      t.cpu.regs = s.cpu.regs ∧ t.cpu.pc = join th tl ∧
      t.cpu.latch = { s.cpu.latch with ir := op, adl := lo, adh := hi, dl := tl } ∧ memorySame s t)

/-- Each of the 105 undefined opcodes, when its class is Illegal: the flag is set and the opcode and its address
recorded; under NoOp it takes two transactions and ends at the next boundary, under Halt one, and the core is
halted; PC is one further, no register, no flag, no byte of memory changes, and there is no write transaction.
-/
def Obligations.IllegalOpcodes : Prop :=
  ∀ p ∈ ([
      (0x02#8, .und02), (0x03#8, .und03), (0x04#8, .und04), (0x07#8, .und07), (0x0B#8, .und0B), (0x0C#8, .und0C),
      (0x0F#8, .und0F), (0x12#8, .und12), (0x13#8, .und13), (0x14#8, .und14), (0x17#8, .und17), (0x1A#8, .und1A),
      (0x1B#8, .und1B), (0x1C#8, .und1C), (0x1F#8, .und1F), (0x22#8, .und22), (0x23#8, .und23), (0x27#8, .und27),
      (0x2B#8, .und2B), (0x2F#8, .und2F), (0x32#8, .und32), (0x33#8, .und33), (0x34#8, .und34), (0x37#8, .und37),
      (0x3A#8, .und3A), (0x3B#8, .und3B), (0x3C#8, .und3C), (0x3F#8, .und3F), (0x42#8, .und42), (0x43#8, .und43),
      (0x44#8, .und44), (0x47#8, .und47), (0x4B#8, .und4B), (0x4F#8, .und4F), (0x52#8, .und52), (0x53#8, .und53),
      (0x54#8, .und54), (0x57#8, .und57), (0x5A#8, .und5A), (0x5B#8, .und5B), (0x5C#8, .und5C), (0x5F#8, .und5F),
      (0x62#8, .und62), (0x63#8, .und63), (0x64#8, .und64), (0x67#8, .und67), (0x6B#8, .und6B), (0x6F#8, .und6F),
      (0x72#8, .und72), (0x73#8, .und73), (0x74#8, .und74), (0x77#8, .und77), (0x7A#8, .und7A), (0x7B#8, .und7B),
      (0x7C#8, .und7C), (0x7F#8, .und7F), (0x80#8, .und80), (0x82#8, .und82), (0x83#8, .und83), (0x87#8, .und87),
      (0x89#8, .und89), (0x8B#8, .und8B), (0x8F#8, .und8F), (0x92#8, .und92), (0x93#8, .und93), (0x97#8, .und97),
      (0x9B#8, .und9B), (0x9C#8, .und9C), (0x9E#8, .und9E), (0x9F#8, .und9F), (0xA3#8, .undA3), (0xA7#8, .undA7),
      (0xAB#8, .undAB), (0xAF#8, .undAF), (0xB2#8, .undB2), (0xB3#8, .undB3), (0xB7#8, .undB7), (0xBB#8, .undBB),
      (0xBF#8, .undBF), (0xC2#8, .undC2), (0xC3#8, .undC3), (0xC7#8, .undC7), (0xCB#8, .undCB), (0xCF#8, .undCF),
      (0xD2#8, .undD2), (0xD3#8, .undD3), (0xD4#8, .undD4), (0xD7#8, .undD7), (0xDA#8, .undDA), (0xDB#8, .undDB),
      (0xDC#8, .undDC), (0xDF#8, .undDF), (0xE2#8, .undE2), (0xE3#8, .undE3), (0xE7#8, .undE7), (0xEB#8, .undEB),
      (0xEF#8, .undEF), (0xF2#8, .undF2), (0xF3#8, .undF3), (0xF4#8, .undF4), (0xF7#8, .undF7), (0xFA#8, .undFA),
      (0xFB#8, .undFB), (0xFC#8, .undFC), (0xFF#8, .undFF)] : List (Byte × Instr)),
    decodeOpcode p.1 = p.2 ∧ ∀ s : State, s.cfg.pseudoOpcodes.contains p.1 = false →
      (s.cfg.illegalAction = .noOp → ∃ t op d,
        exec p.2 s = .next t ∧ Makes s t [rd s.cpu.pc op, rd (s.cpu.pc + 1#16) d] ∧ t.cpu.phase = .fetch ∧
        t.cpu.regs = s.cpu.regs ∧ t.cpu.pc = s.cpu.pc + 1#16 ∧ t.cpu.latch = { s.cpu.latch with ir := op } ∧
        t.cpu.seqKind = s.cpu.seqKind ∧ t.cpu.illegal = ⟨true, p.1, s.cpu.pc⟩ ∧ memorySame s t) ∧
      (s.cfg.illegalAction = .halt → ∃ t op,
        exec p.2 s = .next t ∧ Makes s t [rd s.cpu.pc op] ∧ t.cpu.phase = .halted ∧
        t.cpu.regs = s.cpu.regs ∧ t.cpu.pc = s.cpu.pc + 1#16 ∧ t.cpu.latch = { s.cpu.latch with ir := op } ∧
        t.cpu.seqKind = s.cpu.seqKind ∧ t.cpu.illegal = ⟨true, p.1, s.cpu.pc⟩ ∧ memorySame s t)

/-- The form of a table entry is the model's (notes/assumptions/15.md). An entry is a tick table of the
patterns' rows; what it does is `pseudoMicro`. -/
def Obligations.PseudoOpcodes : Prop :=
  ∀ (i : Instr) (s : State), definedMicro i = none → s.cfg.pseudoOpcodes.contains (encodeOpcode i) = true →
    (∀ e, s.cfg.pseudoTable.find? (fun e => e.op == encodeOpcode i) = some e →
      ∃ t, exec i s = .next t ∧ t = runMicro (pseudoMicro e) s ∧ t.cpu.phase = .fetch ∧ t.cfg = s.cfg ∧
        (t.cpu.illegal.flag = true → s.cpu.illegal.flag = true) ∧
        (s.cfg.wellFormed = true → t.cpu.illegal = s.cpu.illegal)) ∧
    (s.cfg.pseudoTable.find? (fun e => e.op == encodeOpcode i) = none →
      exec i s = .refused (.pseudoWithoutEntry (encodeOpcode i)) ∧ s.cfg.wellFormed = false)

/-- That a step of a halted core is one tick, or the whole RESET sequence, is the model's choice
(notes/assumptions/1.md), and so is which ticks a chip with a divider above 1 acts in (notes/assumptions/24.md);
the rest is rule R305. In the halted state the core makes no transaction and no register changes, whatever IRQ
and NMI do, and the timing generator goes on, unless the next update of the core finds a RESET pending: then the
step is the RESET sequence. With the divider 1 that update is the one at the coming tick boundary. -/
def Obligations.HaltedCore : Prop :=
  ∀ s : State, s.cfg.wellFormed = true → s.cpu.phase = .halted →
    ((coreView s).cpu.pend.resetPending = true → step s = .next (takeInterrupt .reset s)) ∧
    ((coreView s).cpu.pend.resetPending = false → ∃ t,
      step s = .next t ∧ coreTrace t = coreTrace s ∧ t.mem = s.mem ∧ t.banks = s.banks ∧ t.cfg = s.cfg ∧
      t.cpu = { s.cpu with pend := (boundary s).cpu.pend } ∧ t.sched.tickCount = s.sched.tickCount + 1 ∧
      (s.cfg.clockRates.vtg = 1 → t.vtg = vtgTick s.cfg.vtg s.vtg)) ∧
    (s.cfg.clockRates.core = 1 → (coreView s).cpu = (boundary s).cpu)

/-- The IRQ and the NMI sequence make seven transactions: two discarded reads at PC, the pushes of PCH, PCL and
the status byte N, V, 1, 0, D, I, Z, C from bit 7 down, and the two reads of the vector of their kind. S is
three less, I is set, PC is the content of the vector; A, X, Y and the other flags, the illegal-instruction
condition and every byte of memory but the three pushed are unchanged. The first tick of an NMI sequence clears
its pending flag. STACK_BASE and the vectors are parameters of the configuration; the values stated first are
those of the table of rule R7. A sum past 0xFFFF, which those values do not give, wraps: the model's choice
(notes/assumptions/47.md, DESIGN CHOICE). -/
def Obligations.InterruptEntry : Prop :=
  (Config.default.stackBase = 0x0100#16 ∧ Config.default.vectors.nmi = 0xFFFA#16 ∧
    Config.default.vectors.irq = 0xFFFE#16) ∧
  (∀ p : Flags, (List.range 8).map (statusByte p false).getLsbD = [p.c, p.z, p.i, p.d, false, true, p.v, p.n]) ∧
  (∀ (s : State) (k : SeqKind), k ≠ .reset → ∃ d e lo hi,
      let t := takeInterrupt k s
      let p1 := s.cfg.stackBase + s.cpu.regs.s.setWidth 16
      let p2 := s.cfg.stackBase + (s.cpu.regs.s - 1#8).setWidth 16
      let p3 := s.cfg.stackBase + (s.cpu.regs.s - 2#8).setWidth 16
      let status := statusByte s.cpu.regs.p false
      let vector := if k = .nmi then s.cfg.vectors.nmi else s.cfg.vectors.irq
      Makes s t [rd s.cpu.pc d, rd s.cpu.pc e, wr p1 (highByte s.cpu.pc), wr p2 (lowByte s.cpu.pc), wr p3 status,
        rd vector lo, rd (vector + 1#16) hi] ∧
      t.cpu.regs = { s.cpu.regs with s := s.cpu.regs.s - 3#8, p := { s.cpu.regs.p with i := true } } ∧
      t.cpu.pc = join hi lo ∧ t.cpu.phase = .fetch ∧ t.cpu.seqKind = k ∧ t.cpu.illegal = s.cpu.illegal ∧
      t.cpu.latch = s.cpu.latch ∧
      memoryWritten s t [(p1, highByte s.cpu.pc), (p2, lowByte s.cpu.pc), (p3, status)]) ∧
  (∀ (s : State) (m : Micro) (next : Phase),
      (tickWith (cycleAct m next (.enter .nmi)) s).cpu.pend.nmiPending = false)

/-- The RESET sequence makes seven transactions: two discarded reads at PC, at the three stack addresses the
pushes of PCH, PCL and the status byte where RESET_STACK_WRITES is true and discarded reads where it is false,
and the reads of 0xFFFC and 0xFFFD. S is three less, I is set, PC is the content of the vector; the illegal-
instruction flag is cleared and its two values kept; A, X, Y and the other flags are unchanged. Its first tick
clears the pending RESET and a recorded NMI. STACK_BASE and the vectors are parameters of the configuration; the
values stated first are those of the table of rule R7. A sum past 0xFFFF, which those values do not give, wraps:
the model's choice (notes/assumptions/47.md, DESIGN CHOICE). -/
def Obligations.ResetSequence : Prop :=
  (Config.default.stackBase = 0x0100#16 ∧ Config.default.vectors.reset = 0xFFFC#16) ∧
  (∀ s : State, ∃ d e x y z lo hi,
      let t := takeInterrupt .reset s
      let p1 := s.cfg.stackBase + s.cpu.regs.s.setWidth 16
      let p2 := s.cfg.stackBase + (s.cpu.regs.s - 1#8).setWidth 16
      let p3 := s.cfg.stackBase + (s.cpu.regs.s - 2#8).setWidth 16
      let status := statusByte s.cpu.regs.p false
      Makes s t ([rd s.cpu.pc d, rd s.cpu.pc e] ++
        (if s.cfg.resetStackWrites then [wr p1 (highByte s.cpu.pc), wr p2 (lowByte s.cpu.pc), wr p3 status]
          else [rd p1 x, rd p2 y, rd p3 z]) ++ [rd s.cfg.vectors.reset lo, rd (s.cfg.vectors.reset + 1#16) hi]) ∧
      t.cpu.regs = { s.cpu.regs with s := s.cpu.regs.s - 3#8, p := { s.cpu.regs.p with i := true } } ∧
      t.cpu.pc = join hi lo ∧ t.cpu.phase = .fetch ∧ t.cpu.seqKind = .reset ∧
      t.cpu.illegal = { s.cpu.illegal with flag := false } ∧ t.cpu.latch = s.cpu.latch ∧
      memoryWritten s t (if s.cfg.resetStackWrites then
        [(p1, highByte s.cpu.pc), (p2, lowByte s.cpu.pc), (p3, status)] else [])) ∧
  (∀ (s : State) (m : Micro) (next : Phase),
      (tickWith (cycleAct m next (.enter .reset)) s).cpu.pend.nmiPending = false ∧
        (tickWith (cycleAct m next (.enter .reset)) s).cpu.pend.resetPending = false ∧
        (tickWith (cycleAct m next (.enter .reset)) s).cpu.illegal.flag = false)

/-- When the bitset is written is the model's choice (notes/assumptions/35.md, DEDUCED): at the end of a tick,
from the state in which the tick leaves the chips. What the boundary makes of it is rule R419; the outputs are
rules R360, R388 and R414. -/
def Obligations.LinesRouted : Prop :=
  (∀ (act : State → State) (s : State),
    let t := tickWith act s
    let p := (boundary t).cpu.pend
    let driven (l : Line) : Prop := ∃ d, (l, d) ∈ drivenLines t
    t.sched.linesOut = drivenLines t ∧ (boundary t).sched.linesLatched = drivenLines t ∧
    (p.irqLatched = true ↔ driven .irq) ∧ (p.nmiLinePrev = true ↔ driven .nmi) ∧
    (p.nmiPending = true ↔ t.cpu.pend.nmiPending = true ∨ driven .nmi ∧ t.cpu.pend.nmiLinePrev = false) ∧
    (p.resetPending = true ↔ t.cpu.pend.resetPending = true ∨ driven .reset)) ∧
  (∀ (t : State) (l : Line),
    (∀ k : Nat, (l, .ifChip k) ∈ drivenLines t ↔ ∃ chip : IfChip,
      t.ifChips[k]? = some chip ∧ ifIrq chip.unit = true ∧ l = ifLine t.cfg k) ∧
    ((l, .fdc) ∈ drivenLines t ↔ fdcIrq t.cfg.fdc t.fdc = true ∧ l = t.cfg.fdc.line) ∧
    ((l, .environment) ∈ drivenLines t ↔ l ∈ t.sched.envLines)) ∧
  (∀ (c : Config) (k : Nat) (i : IfChipCfg), c.ifChips[k]? = some i → ifLine c k = i.line) ∧
  (∀ s : State, (boundary s).sched.envLines = s.nextInput.lines)

/-- With D = 0, ADC leaves in A the sum of A, the operand and the carry modulo 256, in C whether it reached 256,
in V whether the signed sum lies outside -128..127, in N and Z bit 7 and the zero test of the result; X, Y, S, D
and I are unchanged. -/
def Obligations.AdcBinary : Prop :=
  ∀ (r : Regs) (m : Byte), r.p.d = false →
    let n := r.a.toNat + m.toNat + r.p.c.toNat
    let b := BitVec.ofNat 8 (n % 256)
    opAdc r m = { r with
      a := b
      p := { r.p with
        c := decide (256 ≤ n)
        v := outsideSigned (r.a.toInt + m.toInt + r.p.c.toNat)
        n := b.msb
        z := decide (n % 256 = 0) } } ∧
    ((((r.a ^^^ b) &&& (m ^^^ b) &&& 0x80#8) != 0#8) = outsideSigned (r.a.toInt + m.toInt + r.p.c.toNat))

/-- With D = 1 and both operands valid decimal bytes, ADC leaves a valid decimal byte in A whose value is the
decimal sum modulo 100, in C whether the sum reached 100, and in Z the zero test of the binary sum. -/
def Obligations.AdcDecimal : Prop :=
  ∀ (r : Regs) (m : Byte), r.p.d = true → validBcd r.a = true → validBcd m = true →
    let n := bcdValue r.a + bcdValue m + r.p.c.toNat
    validBcd (opAdc r m).a = true ∧ bcdValue (opAdc r m).a = n % 100 ∧ (opAdc r m).p.c = decide (100 ≤ n) ∧
      (opAdc r m).p.z = decide ((r.a.toNat + m.toNat + r.p.c.toNat) % 256 = 0)

/-- SBC sets C to not-borrow, V to whether the signed difference lies outside -128..127, N and Z from the binary
difference, whatever D holds; with D = 0 the difference modulo 256 is left in A. X, Y, S, D and I are unchanged.
-/
def Obligations.SbcFlagsAndBinary : Prop :=
  ∀ (r : Regs) (m : Byte),
    let borrow : Int := if r.p.c then 0 else 1
    let n : Int := (r.a.toNat : Int) - m.toNat - borrow
    let b := BitVec.ofInt 8 n
    (opSbc r m).p = { r.p with
      c := decide (0 ≤ n)
      v := outsideSigned (r.a.toInt - m.toInt - borrow)
      n := b.msb
      z := b == 0#8 } ∧
    (r.p.d = false → (opSbc r m).a = b) ∧ { opSbc r m with a := r.a, p := r.p } = r

/-- With D = 1 and both operands valid decimal bytes, SBC leaves a valid decimal byte in A whose value is the
decimal difference modulo 100, and in C whether there was no decimal borrow. -/
def Obligations.SbcDecimal : Prop :=
  ∀ (r : Regs) (m : Byte), r.p.d = true → validBcd r.a = true → validBcd m = true →
    let n : Int := (bcdValue r.a : Int) - bcdValue m - (if r.p.c then 0 else 1)
    validBcd (opSbc r m).a = true ∧ (bcdValue (opSbc r m).a : Int) = n % 100 ∧ (opSbc r m).p.c = decide (0 ≤ n)

/-- CMP, CPX and CPY set C to whether the register is at least the operand, Z to equality, N to bit 7 of the
difference modulo 256, and change nothing else. -/
def Obligations.Comparisons : Prop :=
  ∀ (r : Regs) (m : Byte), ∀ q ∈ ([(opCmp, r.a), (opCpx, r.x), (opCpy, r.y)] : List ((Regs → Byte → Regs) × Byte)),
    q.1 r m = { r with p := { r.p with
      c := decide (m.toNat ≤ q.2.toNat)
      z := decide (q.2 = m)
      n := decide (128 ≤ (256 + q.2.toNat - m.toNat) % 256) } }

/-- ASL and ROL give twice the value modulo 256, ROL with the old carry in bit 0, and put bit 7 in C; LSR and
ROR give half the value, ROR with the old carry in bit 7, and put bit 0 in C; N and Z are those of the result;
V, D and I are unchanged. ROR undoes ROL, and nine ROLs restore the byte and the carry. -/
def Obligations.ShiftsAndRotates : Prop :=
  (∀ (p : Flags) (v : Byte),
    ((shiftLeft p v).1.toNat = v.toNat * 2 % 256 ∧ (shiftLeft p v).2.c = decide (128 ≤ v.toNat)) ∧
    ((rotateLeft p v).1.toNat = v.toNat * 2 % 256 + p.c.toNat ∧ (rotateLeft p v).2.c = decide (128 ≤ v.toNat)) ∧
    ((shiftRight p v).1.toNat = v.toNat / 2 ∧ (shiftRight p v).2.c = decide (v.toNat % 2 = 1)) ∧
    ((rotateRight p v).1.toNat = v.toNat / 2 + p.c.toNat * 128 ∧ (rotateRight p v).2.c = decide (v.toNat % 2 = 1)) ∧
    (∀ f ∈ [shiftLeft, shiftRight, rotateLeft, rotateRight],
      (f p v).2 = { p with n := (f p v).1.msb, z := (f p v).1 == 0#8, c := (f p v).2.c })) ∧
  (∀ (p : Flags) (v : Byte), (rotateRight (rotateLeft p v).2 (rotateLeft p v).1).1 = v ∧
    (rotateRight (rotateLeft p v).2 (rotateLeft p v).1).2.c = p.c) ∧
  (∀ (p : Flags) (v : Byte), let q := (fun x : Byte × Flags => rotateLeft x.2 x.1)^[9] (v, p)
    q.1 = v ∧ q.2.c = p.c)

/-- Two entries of a well-formed address map that both contain an address are the same entry, and that entry is
the one the resolution finds. -/
def Obligations.UniqueOwner : Prop :=
  ∀ (c : Config) (a : Addr) (i j : Nat) (e f : MapEntry), c.wellFormed = true →
    c.addressMap[i]? = some e → c.addressMap[j]? = some f →
    e.lo ≤ a.toNat ∧ a.toNat ≤ e.hi → f.lo ≤ a.toNat ∧ a.toNat ≤ f.hi → i = j ∧ mapEntry c a = some e

/-- A core write to an address that a writable region owns is what the next read there returns, and changes no
other byte; a write to a read-only region changes no byte; an access to an unmapped address is counted, reads
the open-bus value and changes nothing else. A read of memory changes nothing but the trace. -/
def Obligations.BusAccess : Prop :=
  ∀ (s : State) (a : Addr) (v : Byte),
    (ramOwned s.cfg a = true → (busRead a (busWrite a v s)).1 = v ∧ memoryWritten s (busWrite a v s) [(a, v)] ∧
      busWrite a v s = { s with mem := (busWrite a v s).mem, bus := wr a v :: s.bus }) ∧
    (memoryOwned s.cfg a = true → ramOwned s.cfg a = false → busWrite a v s = { s with bus := wr a v :: s.bus }) ∧
    (memoryOwned s.cfg a = true → busRead a s = (s.peek a, { s with bus := rd a (s.peek a) :: s.bus })) ∧
    (mapEntry s.cfg a = none →
      (busRead a s).1 = s.cfg.openBus ∧ (busRead a s).2 = { s with
        bus := rd a s.cfg.openBus :: s.bus
        sched := { s.sched with unmappedCount := s.sched.unmappedCount + 1 } } ∧
      busWrite a v s = { s with
        bus := wr a v :: s.bus
        sched := { s.sched with unmappedCount := s.sched.unmappedCount + 1 } })

/-- The form of a bank register is the model's (notes/assumptions/29.md); that a region may be banked is rule
R69. -/
def Obligations.BankedRegions : Prop :=
  ∀ (s : State) (a : Addr) (v : Byte) (k : Nat) (e : MapEntry) (p : BankCfg × Bank),
    mapEntry s.cfg a = some e → bankAt s.cfg s.banks k = some p →
    let t := busWrite a v s
    (e.owner = .bank k →
      busRead a s = (bankRead p.1 p.2 a, { s with bus := rd a (bankRead p.1 p.2 a) :: s.bus }) ∧
      (p.1.writable = true → bankNumber p.1 p.2 < p.2.content.length → ∃ q,
        bankAt t.cfg t.banks k = some (p.1, q) ∧ q.select = p.2.select ∧
        (∀ x, bankRead p.1 q x = if x = a then v else bankRead p.1 p.2 x) ∧
        (∀ n, n ≠ bankNumber p.1 p.2 → q.content[n]? = p.2.content[n]?) ∧
        t = { s with banks := s.banks.set k q, bus := wr a v :: s.bus }) ∧
      (p.1.writable = false → t = { s with bus := wr a v :: s.bus })) ∧
    (e.owner = .bankSelect k →
      t = { s with
        banks := s.banks.set k { p.2 with select := (p.2.select &&& p.1.readOnly) ||| (v &&& ~~~p.1.readOnly) }
        bus := wr a v :: s.bus })

/-- A bus write to a mapped offset of the timing generator stages one update for each part of the register
there: on exactly the bits of the field that the part names, that its width has and that are not read-only, with
the bits of the byte written; at the index offset it changes the private index at once and stages nothing; under
an arbitrary map it changes nothing but the pending list and the private index, and every update stays within
its field. An applied update replaces the staged bits of its field and no other. An update inside a character
period changes only the position in it; the update at a boundary applies every pending write, in order, and the
counters it leaves are compared with the new register set. That VTG_REGMAP is data in this form (index, data and
direct ports, parts, a mask of read-only bits) or an arbitrary map is the model's choice
(notes/assumptions/16.md and 14.md, DESIGN CHOICE); rule R322 leaves the form open. -/
def Obligations.VideoWritesDeferred : Prop :=
  (∀ (c : VtgCfg) (offset : Nat) (v : Byte) (g : Vtg),
    let staged (r : VtgReg) : Prop := ∃ us : List VtgUpdate,
      vtgWrite c offset v g = { g with pending := g.pending ++ us } ∧ us.length = r.parts.length ∧
      ∀ (n : Nat) (p : VtgPart), r.parts[n]? = some p → ∃ u : VtgUpdate, us[n]? = some u ∧ u.field = p.field ∧
        ∀ i, (u.mask.testBit i = true ↔ p.shift ≤ i ∧ i < p.shift + p.bits ∧ i < vtgGet c.widths p.field ∧
            p.low + (i - p.shift) < 8 ∧ r.readOnly.getLsbD (p.low + (i - p.shift)) = false) ∧
          (u.mask.testBit i = true → u.value.testBit i = v.getLsbD (p.low + (i - p.shift)))
    (c.free = false →
      (c.ports[offset]? = some .index → vtgWrite c offset v g = { g with index := v.toNat }) ∧
      (∀ r : VtgReg, c.ports[offset]? = some (.direct r) → staged r) ∧
      (∀ r : VtgReg, c.ports[offset]? = some .data → c.regs[g.index]? = some r → staged r)) ∧
    (c.free = true → ∃ (us : List VtgUpdate) (n : Nat), vtgWrite c offset v g = { g with pending := g.pending ++ us, index := n } ∧
      ∀ u ∈ us, u.mask < 2 ^ vtgGet c.widths u.field)) ∧
  (∀ (r : VtgRegs) (u : VtgUpdate) (f : VtgField) (i : Nat), (vtgGet (vtgApply r u) f).testBit i =
    if f = u.field ∧ u.mask.testBit i = true then u.value.testBit i else (vtgGet r f).testBit i) ∧
  (∀ (c : VtgCfg) (g : Vtg), g.charPhase + 1 < c.ticksPerChar →
    vtgTick c g = { g with charPhase := g.charPhase + 1, lineStart := false, frameStart := false }) ∧
  (∀ (c : VtgCfg) (g : Vtg), c.ticksPerChar ≤ g.charPhase + 1 →
    let r := g.pending.foldl vtgApply g.reg
    let t := vtgTick c g
    t.charPhase = 0 ∧ t.pending = [] ∧ t.reg = r ∧ t.index = g.index ∧
      (g.hcount + 1 < r.hTotal → t.hcount = g.hcount + 1 ∧ t.vcount = g.vcount ∧ t.ma = (g.ma + 1) % 2 ^ c.maBits ∧
        t.lineStart = false ∧ t.frameStart = false) ∧
      (r.hTotal ≤ g.hcount + 1 → t.hcount = 0 ∧ t.ma = t.rowBase ∧ t.lineStart = true ∧
        t.vcount = (if r.vTotal ≤ g.vcount + 1 then 0 else g.vcount + 1) ∧
        t.frameStart = decide (r.vTotal ≤ g.vcount + 1)) ∧
      (t.hsync = true ↔ r.hSyncPos ≤ t.hcount ∧ t.hcount < r.hSyncPos + r.hSyncWidth) ∧
      (t.vsync = true ↔ r.vSyncPos ≤ t.vcount ∧ t.vcount < r.vSyncPos + r.vSyncWidth) ∧
      (t.displayEnable = true ↔ t.hcount < r.hDisplayed ∧ t.vcount < r.vDisplayed))

/-- From a frame boundary, with no write pending and totals of at least 1: after n ticks of the frame the
character position, the line position and the tick inside the character are the quotients and remainders of n;
the display enable is the window of the programmed width and height at every one of them; the next frame
boundary, and no earlier one, comes after exactly h_total * v_total * TICKS_PER_CHAR ticks, with the parity
changed. -/
def Obligations.VideoFrame : Prop :=
  ∀ (c : VtgCfg) (g : Vtg), 0 < c.ticksPerChar → 1 ≤ g.reg.hTotal → 1 ≤ g.reg.vTotal →
    g.charPhase = 0 → g.hcount = 0 → g.vcount = 0 → g.pending = [] → vtgOutputs g = g →
    let period := g.reg.hTotal * g.reg.vTotal * c.ticksPerChar
    (∀ n, n < period →
      let t := vtgTicks c n g
      t.reg = g.reg ∧ t.charPhase = n % c.ticksPerChar ∧ t.hcount = n / c.ticksPerChar % g.reg.hTotal ∧
      t.vcount = n / c.ticksPerChar / g.reg.hTotal ∧ t.field = g.field ∧ (0 < n → t.frameStart = false) ∧
      (t.displayEnable = true ↔
        n / c.ticksPerChar % g.reg.hTotal < g.reg.hDisplayed ∧ n / c.ticksPerChar / g.reg.hTotal < g.reg.vDisplayed)) ∧
    (let t := vtgTicks c period g
     t.charPhase = 0 ∧ t.hcount = 0 ∧ t.vcount = 0 ∧ t.frameStart = true ∧ t.field = !g.field ∧ t.reg = g.reg)

/-- The Mixer's update changes its own state, its output, the trace and the count of unmapped accesses only;
every transaction it adds is a read of its own that returned the byte of the memory region that owns the address
and the open-bus value elsewhere; outside the active window it makes none. That the open-bus value is also what
a fetch of the address of a bank register returns is the model's choice (notes/assumptions/29.md, DESIGN
CHOICE); rule R75 does not name that address. -/
def Obligations.MixerReadsMemoryOnly : Prop :=
  ∀ s : State,
    (∃ tr, (mixerUpdate s).bus = tr ++ s.bus ∧ (s.vtg.displayEnable = false → tr = []) ∧
      ∀ x ∈ tr, x.origin = .mixer ∧ x.write = false ∧
        x.data = (regionByte s.cfg s.mem s.banks x.addr).getD s.cfg.openBus) ∧
    ∃ n, mixerUpdate s = { s with
      mixer := (mixerUpdate s).mixer
      output := (mixerUpdate s).output
      bus := (mixerUpdate s).bus
      sched := { s.sched with unmappedCount := n } }

/-- At a line start the colours, the graphics and the double-height state return to their row-start values; at
the first scan line of a character row the lower-half mark becomes whether a double-height code was seen in a
row that was not itself a lower half, and the seen mark is cleared; at a frame start both marks are cleared. -/
def Obligations.TeletextRowStart : Prop :=
  ∀ (c : TtxCfg) (t : Ttx) (p : AddrPolicy) (ra : Nat) (field : Bool),
    let first := ttxFirstLine p ra field
    let u := ttxLineStart c first t
    (first = true ↔ ra = 0 ∨ p = .interlaced ∧ ra = field.toNat) ∧
    (u.fg = c.fgDefault ∧ u.bg = c.bgDefault ∧ u.graphics = false ∧ u.doubleHeight = false) ∧
    (first = true → u.dhBottom = (t.dhSeen && !t.dhBottom) ∧ u.dhSeen = false) ∧
    (first = false → u.dhBottom = t.dhBottom ∧ u.dhSeen = t.dhSeen) ∧
    ttxFrameStart t = { t with dhSeen := false, dhBottom := false }

/-- The queue, its bound, the dropped event and the one event of a boundary are rules R73 and R359. That the
latch holds the event delivered and is cleared at a boundary with an empty queue is the model's choice
(notes/assumptions/18.md, DEDUCED), and that dropped events are counted its own addition
(notes/assumptions/36.md). -/
def Obligations.EventQueues : Prop :=
  (∀ (s : State) (k : Nat) (chip : IfChip) (e : IfEvent), 0 < s.cfg.eventQueueDepth →
    s.ifChips[k]? = some chip → chip.queue.length ≤ s.cfg.eventQueueDepth →
    let full := chip.queue.length = s.cfg.eventQueueDepth
    queueEvent s (k, e) = { s with
      ifChips := s.ifChips.set k { chip with queue := (if full then chip.queue.tail else chip.queue) ++ [e] }
      sched := { s.sched with droppedEvents := s.sched.droppedEvents + if full then 1 else 0 } }) ∧
  (∀ (chip : IfChip) (e : IfEvent) (q : List IfEvent), chip.queue = e :: q →
    deliverEvent chip = ⟨applyEvent chip.unit e, q, some e⟩) ∧
  (∀ chip : IfChip, chip.queue = [] → deliverEvent chip = { chip with extLatch := none })

/-- For both ports: a strobe sets the handshake flag and a core access to the data register, read or write,
clears it and no other flag; the data register reads the latch on output pins and the outside level on input
pins; a write to it is stored but for its read-only bits and requests the port's levels outside; a pin event
changes the outside levels of that port only, and a read of its data register then shows the new level of every
input pin that the event names and the old one of every other. STATUS ignores writes; the interrupt output is
the OR of the enabled handshake flags. -/
def Obligations.Handshake : Prop :=
  ∀ (l : ParLayout) (chip : Nat) (a b : PortState) (v mask value : Byte),
    let outA := (a.out &&& parReadOnly l (.data .a)) ||| (v &&& ~~~parReadOnly l (.data .a))
    let outB := (b.out &&& parReadOnly l (.data .b)) ||| (v &&& ~~~parReadOnly l (.data .b))
    applyEvent (.parallel a b) (.strobe .a) = .parallel { a with hs := true } b ∧
    applyEvent (.parallel a b) (.strobe .b) = .parallel a { b with hs := true } ∧
    parRead l a b (.data .a) = ((a.out &&& a.ddr) ||| (a.pin &&& ~~~a.ddr), .parallel { a with hs := false } b) ∧
    parRead l a b (.data .b) = ((b.out &&& b.ddr) ||| (b.pin &&& ~~~b.ddr), .parallel a { b with hs := false }) ∧
    parWrite l chip a b v (.data .a) =
      (.parallel { a with out := outA, hs := false } b, [.portOut chip .a (outA &&& a.ddr) a.ddr]) ∧
    parWrite l chip a b v (.data .b) =
      (.parallel a { b with out := outB, hs := false }, [.portOut chip .b (outB &&& b.ddr) b.ddr]) ∧
    parWrite l chip a b v .status = (.parallel a b, []) ∧
    (∃ pin, applyEvent (.parallel a b) (.pinLevel .a mask value) = .parallel { a with pin := pin } b ∧
      ∀ i, i < 8 → (parRead l { a with pin := pin } b (.data .a)).1.getLsbD i =
        if a.ddr.getLsbD i then a.out.getLsbD i else if mask.getLsbD i then value.getLsbD i else a.pin.getLsbD i) ∧
    (∃ pin, applyEvent (.parallel a b) (.pinLevel .b mask value) = .parallel a { b with pin := pin } ∧
      ∀ i, i < 8 → (parRead l a { b with pin := pin } (.data .b)).1.getLsbD i =
        if b.ddr.getLsbD i then b.out.getLsbD i else if mask.getLsbD i then value.getLsbD i else b.pin.getLsbD i) ∧
    (ifIrq (.parallel a b) = true ↔ a.hs = true ∧ a.ie = true ∨ b.hs = true ∧ b.ie = true)

/-- After a write to TX_DATA, whatever was being sent, the chip sends nothing in its next SERIAL_TX_TICKS
updates, sends the byte written in the one after, and then nothing more; the transmit buffer is empty exactly
from then on; receiver and enables are not touched. -/
def Obligations.SerialTransmit : Prop :=
  ∀ (c : Config) (l : SerLayout) (u : Serial) (v : Byte) (n : Nat), l.readOnly.lookup .txData = none →
    let w := serWrite c l u v .txData
    let t := (fun x => (serTransmit x).1)^[n] w
    t.txData = v ∧ (serTransmit t).2 = decide (n = c.serialTxTicks) ∧ t.txEmpty = decide (c.serialTxTicks < n) ∧
      (∀ k chip, chip.unit = .serial t → (ifTick k chip).2 = if n = c.serialTxTicks then [.serialTx k v] else []) ∧
      t = { u with txData := v, txEmpty := t.txEmpty, txTimer := t.txTimer }

/-- A command write while busy changes nothing but the rejected bit; a valid code for a drive without an image,
or a target outside its geometry, ends at once in Error with NotReady or SeekFault, no command record, the head
positions, the buffer and the parameters as they were; an invalid code ends in Error with BadCommand. -/
def Obligations.FloppyRefusals : Prop :=
  ∀ (c : Config) (drives : List (Option Image)) (v : Byte) (f : Fdc),
    let t := fdcCommand c drives v f
    let refused (code : FdcResult) : Prop := t = { f with
      state := .error, cmd := none, result := code, drq := false, lostData := false, rejected := false,
      irqDone := c.fdc.errorIrq }
    (fdcBusy f.state = true → t = { f with rejected := true }) ∧
    (fdcBusy f.state = false → c.fdc.layout.codes.lookup v = none → f.cmd = none → refused .badCommand) ∧
    (∀ kind, fdcBusy f.state = false → c.fdc.layout.codes.lookup v = some kind → f.cmd = none →
      (driveReady drives f.drive.toNat = false → refused .notReady) ∧
      (driveReady drives f.drive.toNat = true →
        (tracksOf c.disk f.drive.toNat ≤ f.track.toNat ∨
          (kind = .read ∨ kind = .write ∨ kind = .verify) ∧ sectorsOf c.disk f.drive.toNat ≤ f.sector.toNat) →
        refused .seekFault))

/-- A read command for a present sector whose stored CRC is that of its payload, with no access by the core
meanwhile: byte k stands in the data register with the data request set after SEEK_DELAY_TICKS + 1 + BYTE_TICKS
* (k + 1) updates, the controller is busy until the last update, and after SEEK_DELAY_TICKS + BYTE_TICKS *
(BYTES_PER_SECTOR + 1) + 2 updates it is in Done with result Ok and the completion interrupt, the head moved,
and no image changed. -/
def Obligations.FloppyRead : Prop :=
  ∀ (c : Config) (drives : List (Option Image)) (v : Byte) (f : Fdc) (x : Sector),
    let d := f.drive.toNat
    let start := c.fdc.seekDelay + 1
    let last := start + c.fdc.byteTicks * (c.disk.bytesPerSector + 1) + 1
    0 < c.fdc.byteTicks → fdcBusy f.state = false → c.fdc.layout.codes.lookup v = some .read →
    readSector c.disk drives d f.track.toNat f.sector.toNat = some x →
    x.payload.length = c.disk.bytesPerSector → crcOf c.disk x.payload = x.crc →
    let after n := fdcTicks c n drives (fdcCommand c drives v f)
    (∀ n, (after n).2 = drives) ∧ (∀ n, n < last → fdcBusy (after n).1.state = true) ∧
    (∀ k, k < c.disk.bytesPerSector →
      x.payload[k]? = some (after (start + c.fdc.byteTicks * (k + 1))).1.dataReg ∧
        (after (start + c.fdc.byteTicks * (k + 1))).1.drq = true) ∧
    (after last).1.state = .done ∧ (after last).1.result = .ok ∧ (after last).1.irqDone = true ∧
    (after last).1.currentTrack = f.currentTrack.set d f.track.toNat

/-- A successful write of a sector is what a read of that sector returns, payload and CRC; a write, successful
or not, does not change what a read of any other drive, track or sector returns; a write that is out of bounds,
of the wrong size or to an empty drive changes nothing. -/
def Obligations.DiskStore : Prop :=
  ∀ (c : DiskCfg) (drives : List (Option Image)) (d track sector : Nat) (payload : List Byte) (crc : Nat),
    drivesInv c drives →
    let w := writeSector c drives d track sector payload crc
    (w.2 = true → readSector c w.1 d track sector = some ⟨payload, crc⟩) ∧ (w.2 = false → w.1 = drives) ∧
    (∀ d' track' sector', (d', track', sector') ≠ (d, track, sector) →
      readSector c w.1 d' track' sector' = readSector c drives d' track' sector') ∧
    (w.2 = true ↔ driveReady drives d = true ∧ track < tracksOf c d ∧ sector < sectorsOf c d ∧
      payload.length = c.bytesPerSector)
end

