-- ==== Sys2Proof/Tests/Slice0.lean ====
section
/-! SUPPORT. Sys2Proof/Tests/Slice0.lean: the model's own tests. Expected results come from
spec/95_test_vectors.md (a `V`, `X` or `F` in a name is the vector's number there) and from the encoding column
of spec/opcode_table.json. The `witness_` theorems show states and operands that meet the hypotheses of the
statements. -/

namespace Sys2Proof.Tests

set_option Elab.async false

open Sys2Proof Sys2Proof.Machine

/-! ## Helpers -/

/-- The configuration of the core vectors: all addresses are RAM, no chip drives a line (section 2 there). -/
def allRam : Config :=
  { Config.default with addressMap := [⟨0x0000, 0xFFFF, .ram⟩], clockRates := ⟨1, 1, 1, [], 1⟩, ifChips := [] }

/-- A read-only region from 0xC000 on. -/
def withRom (rom : Memory) : Config :=
  { allRam with addressMap := [⟨0x0000, 0xBFFF, .ram⟩, ⟨0xC000, 0xFFFF, .rom⟩], rom := rom }

/-- No entry for 0x8000 to 0x8FFF. -/
def withHole : Config :=
  { allRam with addressMap := [⟨0x0000, 0x7FFF, .ram⟩, ⟨0x9000, 0xFFFF, .ram⟩] }

/-- Flags, from the letters that are set. -/
def fl (set : List Char) : Flags :=
  ⟨set.contains 'N', set.contains 'V', set.contains 'D', set.contains 'I', set.contains 'Z', set.contains 'C'⟩

/-- An instruction boundary with nothing pending. -/
def at_ (c : Config) (pc : Addr) (r : Regs) (m : Memory) : State :=
  let s := State.powerOn c
  { s with
    cpu := { s.cpu with regs := r, pc := pc, phase := .fetch, pend := ⟨false, false, false, false⟩ }
    sched := { s.sched with linesOut := [], envLines := [] }
    mem := m }

/-- The step answers a next state with these registers, this PC, this memory and this trace. -/
def goes (s : State) (r : Regs) (pc : Addr) (m : Memory) (tr : List Transaction) : Bool :=
  match step s with
  | .next t => t.cpu.regs == r && t.cpu.pc == pc && t.mem == m && coreTrace t == tr && t.cpu.phase == .fetch
  | _ => false

/-- The step answers a next state that passes a test. -/
def stepsTo (s : State) (p : State → Bool) : Bool :=
  match step s with
  | .next t => p t
  | _ => false

/-- The core halted, nothing pending. -/
def haltedAt (c : Config) (m : Memory) : State :=
  let s := at_ c 0x0200#16 ⟨0#8, 0#8, 0#8, 0xFF#8, fl []⟩ m
  { s with cpu := { s.cpu with phase := .halted } }

/-! ## Well-formedness: each check refuses an ill-formed term -/

theorem test_code_operands_counted : Code.wellFormed ⟨.ldaImm, []⟩ = false ∧ Code.wellFormed ⟨.ldaImm, [1#8]⟩ = true ∧
    Code.wellFormed ⟨.nop, [1#8]⟩ = false := by decide

theorem test_map_entry_range : MapEntry.inRange ⟨5, 4, .ram⟩ = false ∧ MapEntry.inRange ⟨0, 65536, .ram⟩ = false := by
  decide

theorem test_map_overlap : disjointMap [⟨0, 0x10, .ram⟩, ⟨0x10, 0x20, .rom⟩] = false ∧
    ({ allRam with addressMap := [⟨0, 0x10, .ram⟩, ⟨0x10, 0x20, .rom⟩] } : Config).wellFormed = false := by decide

theorem test_map_owner_exists : ({ allRam with addressMap := [⟨0, 1, .ifChip 0⟩] } : Config).ownersExist = false ∧
    ({ allRam with addressMap := [⟨0, 1, .bank 0⟩] } : Config).ownersExist = false ∧
    ({ allRam with addressMap := [⟨0, 1, .bankSelect 0⟩] } : Config).ownersExist = false := by
  decide

/-- Byte 0x07 as a pseudo-instruction: ASL of a zero-page byte, then ORA with it. -/
def slo : PseudoEntry where
  op := 0x07#8
  format := .zp
  cycles := [.fetchAdl, .readDl .zeroPage, .writeDl .zeroPage, .writeModified .zeroPage]
  reads := [.oraZp]
  modify := some .aslZp
  stores := []
  tests := []
  free := false

/-- A configuration in which byte 0x07 has class `Pseudo`. -/
def withPseudo (es : List PseudoEntry) : Config :=
  { allRam with pseudoOpcodes := [0x07#8], pseudoTable := es }

theorem test_pseudo_entry_complete : (withPseudo []).pseudoComplete = false ∧ (withPseudo [slo]).pseudoComplete = true ∧
    (withPseudo [{ slo with format := .abs }]).pseudoComplete = false ∧
    (withPseudo [{ slo with format := .undefined, cycles := [.implied] }]).pseudoComplete = false ∧
    (withPseudo [{ slo with cycles := [.fetchAdl, .enter .nmi] }]).pseudoComplete = false := by
  decide

theorem test_widths : ({ allRam with widths := ⟨8, 16, 16, 16⟩ } : Config).wellFormed = false ∧ allRam.wellFormed = true := by
  decide +kernel

theorem test_schedule :
    ({ allRam with tickOrder := ⟨[], [.vtg, .mixer, .ifChips]⟩ } : Config).scheduleLegal = false ∧
    ({ allRam with tickOrder := ⟨[.vtg], [.vtg, .mixer, .ifChips, .fdc]⟩ } : Config).scheduleLegal = false ∧
    ({ allRam with tickOrder := ⟨[.fdc], [.mixer, .vtg, .ifChips]⟩ } : Config).scheduleLegal = true ∧
    ({ allRam with clockRates := ⟨1, 0, 1, [], 1⟩ } : Config).scheduleLegal = false ∧
    ({ Config.default with clockRates := ⟨1, 1, 1, [1, 0], 1⟩ } : Config).scheduleLegal = false ∧
    ({ Config.default with clockRates := ⟨1, 1, 1, [1], 1⟩ } : Config).scheduleLegal = false ∧
    ({ Config.default with clockRates := ⟨1, 1, 1, [1, 2], 1⟩ } : Config).scheduleLegal = true := by
  decide

theorem test_vtg_values_fit :
    VtgCfg.wellFormed { VtgCfg.default with reset := ⟨256, 0, 0, 0, 0, 0, 0, 0, 0, 0, 0⟩ } = false ∧
    VtgCfg.wellFormed { VtgCfg.default with reset := ⟨0, 0, 0, 0, 0, 0, 0, 0, 0x4000, 0, 0⟩ } = false ∧
    VtgCfg.wellFormed { VtgCfg.default with policy := .programmed [] } = false ∧
    VtgCfg.wellFormed { VtgCfg.default with policy := .programmed [.interlaced] } = true := by
  decide

theorem test_palette_fits :
    MixerCfg.wellFormed { MixerCfg.default with modes := [⟨3, false⟩] } = false ∧
    MixerCfg.wellFormed { MixerCfg.default with modes := [] } = false ∧
    MixerCfg.wellFormed { MixerCfg.default with modes := [⟨8, false⟩] } = false ∧
    MixerCfg.wellFormed { MixerCfg.default with resetRegs := ⟨0, List.replicate 16 ⟨0, 2, 0⟩, 0⟩ } = false ∧
    MixerCfg.wellFormed { MixerCfg.default with resetRegs := ⟨0, List.replicate 16 ⟨0, 1, 0⟩, 16⟩ } = false ∧
    MixerCfg.wellFormed .default = true := by
  decide +kernel

theorem test_counts_at_least_one :
    ({ allRam with vtg := { allRam.vtg with ticksPerChar := 0 } } : Config).countsLegal = false ∧
      ({ allRam with eventQueueDepth := 0 } : Config).countsLegal = false ∧
      ({ allRam with fdc := { allRam.fdc with byteTicks := 0 } } : Config).countsLegal = false ∧
      ({ allRam with banks := [⟨0, true, [], true, 0#8, 0#8⟩] } : Config).countsLegal = false := by
  decide +kernel

theorem test_image_must_fit : DiskCfg.wellFormed { DiskCfg.default with images := [some [], none] } = false ∧
    DiskCfg.wellFormed { DiskCfg.default with images := [none] } = false ∧
    DiskCfg.wellFormed ⟨[⟨1, 1⟩], 1, .free, 16, [some [[⟨[0#8], 0xFFFF⟩]]]⟩ = true ∧
    DiskCfg.wellFormed ⟨[⟨1, 1⟩], 1, .free, 16, [some [[⟨[0#8], 0x10000⟩]]]⟩ = false := by decide

theorem test_ill_formed_refused :
    step (at_ { allRam with eventQueueDepth := 0 } 0#16 default []) = .refused .illFormedConfiguration :=
  rfl

/-! ## Decoding: every row of the opcode table, its bits written out -/

theorem test_decode_row_0 : ([
    (0b00000000, .brk), (0b00000001, .oraIzx), (0b00000010, .und02), (0b00000011, .und03),
    (0b00000100, .und04), (0b00000101, .oraZp), (0b00000110, .aslZp), (0b00000111, .und07),
    (0b00001000, .php), (0b00001001, .oraImm), (0b00001010, .aslAcc), (0b00001011, .und0B),
    (0b00001100, .und0C), (0b00001101, .oraAbs), (0b00001110, .aslAbs), (0b00001111, .und0F)] : List (Nat × Instr)).all
      (fun p => decodeTableWord 8 p.1 == some p.2) = true := by decide +kernel

theorem test_decode_row_1 : ([
    (0b00010000, .bpl), (0b00010001, .oraIzy), (0b00010010, .und12), (0b00010011, .und13),
    (0b00010100, .und14), (0b00010101, .oraZpx), (0b00010110, .aslZpx), (0b00010111, .und17),
    (0b00011000, .clc), (0b00011001, .oraAby), (0b00011010, .und1A), (0b00011011, .und1B),
    (0b00011100, .und1C), (0b00011101, .oraAbx), (0b00011110, .aslAbx), (0b00011111, .und1F)] : List (Nat × Instr)).all
      (fun p => decodeTableWord 8 p.1 == some p.2) = true := by decide +kernel

theorem test_decode_row_2 : ([
    (0b00100000, .jsr), (0b00100001, .andIzx), (0b00100010, .und22), (0b00100011, .und23),
    (0b00100100, .bitZp), (0b00100101, .andZp), (0b00100110, .rolZp), (0b00100111, .und27),
    (0b00101000, .plp), (0b00101001, .andImm), (0b00101010, .rolAcc), (0b00101011, .und2B),
    (0b00101100, .bitAbs), (0b00101101, .andAbs), (0b00101110, .rolAbs), (0b00101111, .und2F)] : List (Nat × Instr)).all
      (fun p => decodeTableWord 8 p.1 == some p.2) = true := by decide +kernel

theorem test_decode_row_3 : ([
    (0b00110000, .bmi), (0b00110001, .andIzy), (0b00110010, .und32), (0b00110011, .und33),
    (0b00110100, .und34), (0b00110101, .andZpx), (0b00110110, .rolZpx), (0b00110111, .und37),
    (0b00111000, .sec), (0b00111001, .andAby), (0b00111010, .und3A), (0b00111011, .und3B),
    (0b00111100, .und3C), (0b00111101, .andAbx), (0b00111110, .rolAbx), (0b00111111, .und3F)] : List (Nat × Instr)).all
      (fun p => decodeTableWord 8 p.1 == some p.2) = true := by decide +kernel

theorem test_decode_row_4 : ([
    (0b01000000, .rti), (0b01000001, .eorIzx), (0b01000010, .und42), (0b01000011, .und43),
    (0b01000100, .und44), (0b01000101, .eorZp), (0b01000110, .lsrZp), (0b01000111, .und47),
    (0b01001000, .pha), (0b01001001, .eorImm), (0b01001010, .lsrAcc), (0b01001011, .und4B),
    (0b01001100, .jmpAbs), (0b01001101, .eorAbs), (0b01001110, .lsrAbs), (0b01001111, .und4F)] : List (Nat × Instr)).all
      (fun p => decodeTableWord 8 p.1 == some p.2) = true := by decide +kernel

theorem test_decode_row_5 : ([
    (0b01010000, .bvc), (0b01010001, .eorIzy), (0b01010010, .und52), (0b01010011, .und53),
    (0b01010100, .und54), (0b01010101, .eorZpx), (0b01010110, .lsrZpx), (0b01010111, .und57),
    (0b01011000, .cli), (0b01011001, .eorAby), (0b01011010, .und5A), (0b01011011, .und5B),
    (0b01011100, .und5C), (0b01011101, .eorAbx), (0b01011110, .lsrAbx), (0b01011111, .und5F)] : List (Nat × Instr)).all
      (fun p => decodeTableWord 8 p.1 == some p.2) = true := by decide +kernel

theorem test_decode_row_6 : ([
    (0b01100000, .rts), (0b01100001, .adcIzx), (0b01100010, .und62), (0b01100011, .und63),
    (0b01100100, .und64), (0b01100101, .adcZp), (0b01100110, .rorZp), (0b01100111, .und67),
    (0b01101000, .pla), (0b01101001, .adcImm), (0b01101010, .rorAcc), (0b01101011, .und6B),
    (0b01101100, .jmpInd), (0b01101101, .adcAbs), (0b01101110, .rorAbs), (0b01101111, .und6F)] : List (Nat × Instr)).all
      (fun p => decodeTableWord 8 p.1 == some p.2) = true := by decide +kernel

theorem test_decode_row_7 : ([
    (0b01110000, .bvs), (0b01110001, .adcIzy), (0b01110010, .und72), (0b01110011, .und73),
    (0b01110100, .und74), (0b01110101, .adcZpx), (0b01110110, .rorZpx), (0b01110111, .und77),
    (0b01111000, .sei), (0b01111001, .adcAby), (0b01111010, .und7A), (0b01111011, .und7B),
    (0b01111100, .und7C), (0b01111101, .adcAbx), (0b01111110, .rorAbx), (0b01111111, .und7F)] : List (Nat × Instr)).all
      (fun p => decodeTableWord 8 p.1 == some p.2) = true := by decide +kernel

theorem test_decode_row_8 : ([
    (0b10000000, .und80), (0b10000001, .staIzx), (0b10000010, .und82), (0b10000011, .und83),
    (0b10000100, .styZp), (0b10000101, .staZp), (0b10000110, .stxZp), (0b10000111, .und87),
    (0b10001000, .dey), (0b10001001, .und89), (0b10001010, .txa), (0b10001011, .und8B),
    (0b10001100, .styAbs), (0b10001101, .staAbs), (0b10001110, .stxAbs), (0b10001111, .und8F)] : List (Nat × Instr)).all
      (fun p => decodeTableWord 8 p.1 == some p.2) = true := by decide +kernel

theorem test_decode_row_9 : ([
    (0b10010000, .bcc), (0b10010001, .staIzy), (0b10010010, .und92), (0b10010011, .und93),
    (0b10010100, .styZpx), (0b10010101, .staZpx), (0b10010110, .stxZpy), (0b10010111, .und97),
    (0b10011000, .tya), (0b10011001, .staAby), (0b10011010, .txs), (0b10011011, .und9B),
    (0b10011100, .und9C), (0b10011101, .staAbx), (0b10011110, .und9E), (0b10011111, .und9F)] : List (Nat × Instr)).all
      (fun p => decodeTableWord 8 p.1 == some p.2) = true := by decide +kernel

theorem test_decode_row_A : ([
    (0b10100000, .ldyImm), (0b10100001, .ldaIzx), (0b10100010, .ldxImm), (0b10100011, .undA3),
    (0b10100100, .ldyZp), (0b10100101, .ldaZp), (0b10100110, .ldxZp), (0b10100111, .undA7),
    (0b10101000, .tay), (0b10101001, .ldaImm), (0b10101010, .tax), (0b10101011, .undAB),
    (0b10101100, .ldyAbs), (0b10101101, .ldaAbs), (0b10101110, .ldxAbs), (0b10101111, .undAF)] : List (Nat × Instr)).all
      (fun p => decodeTableWord 8 p.1 == some p.2) = true := by decide +kernel

theorem test_decode_row_B : ([
    (0b10110000, .bcs), (0b10110001, .ldaIzy), (0b10110010, .undB2), (0b10110011, .undB3),
    (0b10110100, .ldyZpx), (0b10110101, .ldaZpx), (0b10110110, .ldxZpy), (0b10110111, .undB7),
    (0b10111000, .clv), (0b10111001, .ldaAby), (0b10111010, .tsx), (0b10111011, .undBB),
    (0b10111100, .ldyAbx), (0b10111101, .ldaAbx), (0b10111110, .ldxAby), (0b10111111, .undBF)] : List (Nat × Instr)).all
      (fun p => decodeTableWord 8 p.1 == some p.2) = true := by decide +kernel

theorem test_decode_row_C : ([
    (0b11000000, .cpyImm), (0b11000001, .cmpIzx), (0b11000010, .undC2), (0b11000011, .undC3),
    (0b11000100, .cpyZp), (0b11000101, .cmpZp), (0b11000110, .decZp), (0b11000111, .undC7),
    (0b11001000, .iny), (0b11001001, .cmpImm), (0b11001010, .dex), (0b11001011, .undCB),
    (0b11001100, .cpyAbs), (0b11001101, .cmpAbs), (0b11001110, .decAbs), (0b11001111, .undCF)] : List (Nat × Instr)).all
      (fun p => decodeTableWord 8 p.1 == some p.2) = true := by decide +kernel

theorem test_decode_row_D : ([
    (0b11010000, .bne), (0b11010001, .cmpIzy), (0b11010010, .undD2), (0b11010011, .undD3),
    (0b11010100, .undD4), (0b11010101, .cmpZpx), (0b11010110, .decZpx), (0b11010111, .undD7),
    (0b11011000, .cld), (0b11011001, .cmpAby), (0b11011010, .undDA), (0b11011011, .undDB),
    (0b11011100, .undDC), (0b11011101, .cmpAbx), (0b11011110, .decAbx), (0b11011111, .undDF)] : List (Nat × Instr)).all
      (fun p => decodeTableWord 8 p.1 == some p.2) = true := by decide +kernel

theorem test_decode_row_E : ([
    (0b11100000, .cpxImm), (0b11100001, .sbcIzx), (0b11100010, .undE2), (0b11100011, .undE3),
    (0b11100100, .cpxZp), (0b11100101, .sbcZp), (0b11100110, .incZp), (0b11100111, .undE7),
    (0b11101000, .inx), (0b11101001, .sbcImm), (0b11101010, .nop), (0b11101011, .undEB),
    (0b11101100, .cpxAbs), (0b11101101, .sbcAbs), (0b11101110, .incAbs), (0b11101111, .undEF)] : List (Nat × Instr)).all
      (fun p => decodeTableWord 8 p.1 == some p.2) = true := by decide +kernel

theorem test_decode_row_F : ([
    (0b11110000, .beq), (0b11110001, .sbcIzy), (0b11110010, .undF2), (0b11110011, .undF3),
    (0b11110100, .undF4), (0b11110101, .sbcZpx), (0b11110110, .incZpx), (0b11110111, .undF7),
    (0b11111000, .sed), (0b11111001, .sbcAby), (0b11111010, .undFA), (0b11111011, .undFB),
    (0b11111100, .undFC), (0b11111101, .sbcAbx), (0b11111110, .incAbx), (0b11111111, .undFF)] : List (Nat × Instr)).all
      (fun p => decodeTableWord 8 p.1 == some p.2) = true := by decide +kernel

theorem test_decode_rejects_short : decode [] = .error .noOpcode ∧ decode [0xA9#8] = .error (.operandsMissing .ldaImm) ∧
    decode [0x4C#8, 0x34#8] = .error (.operandsMissing .jmpAbs) :=
  ⟨rfl, rfl, rfl⟩

/-- An opcode of class `Pseudo` has the operand bytes of its entry's format (rules R102, R302). -/
theorem test_decode_pseudo : decodeIn (withPseudo [slo]) [0x07#8, 0x10#8, 0xEA#8] = .ok (⟨.und07, [0x10#8]⟩, [0xEA#8]) ∧
    decode [0x07#8, 0x10#8, 0xEA#8] = .ok (⟨.und07, []⟩, [0x10#8, 0xEA#8]) ∧
    decodeIn (withPseudo [slo]) [0x0F#8, 0x10#8] = .ok (⟨.und0F, []⟩, [0x10#8]) :=
  ⟨rfl, rfl, rfl⟩

/-- The pattern of every opcode fetches the operand bytes of its format (the `format` and `bus_pattern` columns). -/
theorem test_patterns_read_operands : (List.range 256).all (fun n =>
    let i := decodeOpcode (BitVec.ofNat 8 n)
    match definedMicro i with
    | some m => (m.cycles.map Cycle.operandBytes).sum == i.format.operandLength
    | none => i.format == .undefined) = true := by
  decide +kernel

/-! ## Single instructions (sections 3.1 to 3.8 of the vectors) -/

theorem test_V4_ldaZpx : goes (at_ allRam 0x0200#16 ⟨0x00#8, 0x20#8, 0x00#8, 0xFF#8, fl []⟩
      [(0x0010, 0x42#8), (0x0110, 0x99#8), (0x0200, 0xB5#8), (0x0201, 0xF0#8)])
    ⟨0x42#8, 0x20#8, 0x00#8, 0xFF#8, fl []⟩ 0x0202#16
    [(0x0010, 0x42#8), (0x0110, 0x99#8), (0x0200, 0xB5#8), (0x0201, 0xF0#8)]
    [rd 0x0200#16 0xB5#8, rd 0x0201#16 0xF0#8, rd 0x00F0#16 0x00#8, rd 0x0010#16 0x42#8] = true := by
  decide +kernel

theorem test_V7_ldaAbx : goes (at_ allRam 0x0200#16 ⟨0x00#8, 0x01#8, 0x00#8, 0xFF#8, fl []⟩
      [(0x0200, 0xBD#8), (0x0201, 0xFF#8), (0x0202, 0x30#8), (0x3000, 0x11#8), (0x3100, 0xBB#8)])
    ⟨0xBB#8, 0x01#8, 0x00#8, 0xFF#8, fl ['N']⟩ 0x0203#16
    [(0x0200, 0xBD#8), (0x0201, 0xFF#8), (0x0202, 0x30#8), (0x3000, 0x11#8), (0x3100, 0xBB#8)]
    [rd 0x0200#16 0xBD#8, rd 0x0201#16 0xFF#8, rd 0x0202#16 0x30#8, rd 0x3000#16 0x11#8, rd 0x3100#16 0xBB#8] = true := by
  decide +kernel

theorem test_V9_ldaIzx : goes (at_ allRam 0x0200#16 ⟨0x00#8, 0x04#8, 0x00#8, 0xFF#8, fl []⟩
      [(0x0025, 0x40#8), (0x0200, 0xA1#8), (0x0201, 0x20#8), (0x4000, 0x5A#8)])
    ⟨0x5A#8, 0x04#8, 0x00#8, 0xFF#8, fl []⟩ 0x0202#16
    [(0x0025, 0x40#8), (0x0200, 0xA1#8), (0x0201, 0x20#8), (0x4000, 0x5A#8)]
    [rd 0x0200#16 0xA1#8, rd 0x0201#16 0x20#8, rd 0x0020#16 0x00#8, rd 0x0024#16 0x00#8, rd 0x0025#16 0x40#8, rd 0x4000#16 0x5A#8] = true := by
  decide +kernel

theorem test_V12_ldaIzy : goes (at_ allRam 0x0200#16 ⟨0x00#8, 0x00#8, 0x01#8, 0xFF#8, fl []⟩
      [(0x0000, 0x20#8), (0x00FF, 0xFF#8), (0x0100, 0x77#8), (0x0200, 0xB1#8), (0x0201, 0xFF#8), (0x2000, 0xEE#8), (0x2100, 0x3C#8)])
    ⟨0x3C#8, 0x00#8, 0x01#8, 0xFF#8, fl []⟩ 0x0202#16
    [(0x0000, 0x20#8), (0x00FF, 0xFF#8), (0x0100, 0x77#8), (0x0200, 0xB1#8), (0x0201, 0xFF#8), (0x2000, 0xEE#8), (0x2100, 0x3C#8)]
    [rd 0x0200#16 0xB1#8, rd 0x0201#16 0xFF#8, rd 0x00FF#16 0xFF#8, rd 0x0000#16 0x20#8, rd 0x2000#16 0xEE#8, rd 0x2100#16 0x3C#8] = true := by
  decide +kernel

theorem test_V14_ldxZpy : goes (at_ allRam 0x0200#16 ⟨0x00#8, 0x00#8, 0x90#8, 0xFF#8, fl []⟩
      [(0x0010, 0x01#8), (0x0200, 0xB6#8), (0x0201, 0x80#8)])
    ⟨0x00#8, 0x01#8, 0x90#8, 0xFF#8, fl []⟩ 0x0202#16
    [(0x0010, 0x01#8), (0x0200, 0xB6#8), (0x0201, 0x80#8)]
    [rd 0x0200#16 0xB6#8, rd 0x0201#16 0x80#8, rd 0x0080#16 0x00#8, rd 0x0010#16 0x01#8] = true := by
  decide +kernel

theorem test_V16_ldyZp : goes (at_ allRam 0x0200#16 ⟨0x00#8, 0x00#8, 0x00#8, 0xFF#8, fl []⟩
      [(0x0000, 0x80#8), (0x0200, 0xA4#8)])
    ⟨0x00#8, 0x00#8, 0x80#8, 0xFF#8, fl ['N']⟩ 0x0202#16
    [(0x0000, 0x80#8), (0x0200, 0xA4#8)]
    [rd 0x0200#16 0xA4#8, rd 0x0201#16 0x00#8, rd 0x0000#16 0x80#8] = true := by
  decide +kernel

theorem test_V20_staZpx : goes (at_ allRam 0x0200#16 ⟨0x12#8, 0x01#8, 0x00#8, 0xFF#8, fl []⟩
      [(0x0200, 0x95#8), (0x0201, 0xFF#8)])
    ⟨0x12#8, 0x01#8, 0x00#8, 0xFF#8, fl []⟩ 0x0202#16
    [(0x0000, 0x12#8), (0x0200, 0x95#8), (0x0201, 0xFF#8)]
    [rd 0x0200#16 0x95#8, rd 0x0201#16 0xFF#8, rd 0x00FF#16 0x00#8, wr 0x0000#16 0x12#8] = true := by
  decide +kernel

theorem test_V23_staAbx : goes (at_ allRam 0x0200#16 ⟨0x77#8, 0x20#8, 0x00#8, 0xFF#8, fl []⟩
      [(0x0200, 0x9D#8), (0x0201, 0xF0#8), (0x0202, 0x03#8), (0x0310, 0x55#8)])
    ⟨0x77#8, 0x20#8, 0x00#8, 0xFF#8, fl []⟩ 0x0203#16
    [(0x0200, 0x9D#8), (0x0201, 0xF0#8), (0x0202, 0x03#8), (0x0310, 0x55#8), (0x0410, 0x77#8)]
    [rd 0x0200#16 0x9D#8, rd 0x0201#16 0xF0#8, rd 0x0202#16 0x03#8, rd 0x0310#16 0x55#8, wr 0x0410#16 0x77#8] = true := by
  decide +kernel

theorem test_V26_staIzy : goes (at_ allRam 0x0200#16 ⟨0x3E#8, 0x00#8, 0x01#8, 0xFF#8, fl []⟩
      [(0x0040, 0xFF#8), (0x0041, 0x50#8), (0x0200, 0x91#8), (0x0201, 0x40#8)])
    ⟨0x3E#8, 0x00#8, 0x01#8, 0xFF#8, fl []⟩ 0x0202#16
    [(0x0040, 0xFF#8), (0x0041, 0x50#8), (0x0200, 0x91#8), (0x0201, 0x40#8), (0x5100, 0x3E#8)]
    [rd 0x0200#16 0x91#8, rd 0x0201#16 0x40#8, rd 0x0040#16 0xFF#8, rd 0x0041#16 0x50#8, rd 0x5000#16 0x00#8, wr 0x5100#16 0x3E#8] = true := by
  decide +kernel

theorem test_V28_stxZpy : goes (at_ allRam 0x0200#16 ⟨0x00#8, 0x44#8, 0xFF#8, 0xFF#8, fl []⟩
      [(0x0200, 0x96#8), (0x0201, 0x02#8)])
    ⟨0x00#8, 0x44#8, 0xFF#8, 0xFF#8, fl []⟩ 0x0202#16
    [(0x0001, 0x44#8), (0x0200, 0x96#8), (0x0201, 0x02#8)]
    [rd 0x0200#16 0x96#8, rd 0x0201#16 0x02#8, rd 0x0002#16 0x00#8, wr 0x0001#16 0x44#8] = true := by
  decide +kernel

theorem test_V30_styZpx : goes (at_ allRam 0x0200#16 ⟨0x00#8, 0x01#8, 0x09#8, 0xFF#8, fl []⟩
      [(0x0200, 0x94#8), (0x0201, 0x10#8)])
    ⟨0x00#8, 0x01#8, 0x09#8, 0xFF#8, fl []⟩ 0x0202#16
    [(0x0011, 0x09#8), (0x0200, 0x94#8), (0x0201, 0x10#8)]
    [rd 0x0200#16 0x94#8, rd 0x0201#16 0x10#8, rd 0x0010#16 0x00#8, wr 0x0011#16 0x09#8] = true := by
  decide +kernel

theorem test_V32_tax : goes (at_ allRam 0x0200#16 ⟨0x00#8, 0x55#8, 0x00#8, 0xFF#8, fl []⟩
      [(0x0200, 0xAA#8)])
    ⟨0x00#8, 0x00#8, 0x00#8, 0xFF#8, fl ['Z']⟩ 0x0201#16
    [(0x0200, 0xAA#8)]
    [rd 0x0200#16 0xAA#8, rd 0x0201#16 0x00#8] = true := by
  decide +kernel

theorem test_V36_tsx : goes (at_ allRam 0x0200#16 ⟨0x00#8, 0x00#8, 0x00#8, 0xFD#8, fl []⟩
      [(0x0200, 0xBA#8)])
    ⟨0x00#8, 0xFD#8, 0x00#8, 0xFD#8, fl ['N']⟩ 0x0201#16
    [(0x0200, 0xBA#8)]
    [rd 0x0200#16 0xBA#8, rd 0x0201#16 0x00#8] = true := by
  decide +kernel

theorem test_V37_txs : goes (at_ allRam 0x0200#16 ⟨0x00#8, 0x00#8, 0x00#8, 0xFF#8, fl ['N']⟩
      [(0x0200, 0x9A#8)])
    ⟨0x00#8, 0x00#8, 0x00#8, 0x00#8, fl ['N']⟩ 0x0201#16
    [(0x0200, 0x9A#8)]
    [rd 0x0200#16 0x9A#8, rd 0x0201#16 0x00#8] = true := by
  decide +kernel

theorem test_V40_pha : goes (at_ allRam 0x0200#16 ⟨0x5A#8, 0x00#8, 0x00#8, 0x00#8, fl []⟩
      [(0x0200, 0x48#8)])
    ⟨0x5A#8, 0x00#8, 0x00#8, 0xFF#8, fl []⟩ 0x0201#16
    [(0x0100, 0x5A#8), (0x0200, 0x48#8)]
    [rd 0x0200#16 0x48#8, rd 0x0201#16 0x00#8, wr 0x0100#16 0x5A#8] = true := by
  decide +kernel

theorem test_V43_php : goes (at_ allRam 0x0200#16 ⟨0x00#8, 0x00#8, 0x00#8, 0xFF#8, fl ['N', 'V', 'D', 'I', 'Z', 'C']⟩
      [(0x0200, 0x08#8)])
    ⟨0x00#8, 0x00#8, 0x00#8, 0xFE#8, fl ['N', 'V', 'D', 'I', 'Z', 'C']⟩ 0x0201#16
    [(0x01FF, 0xFF#8), (0x0200, 0x08#8)]
    [rd 0x0200#16 0x08#8, rd 0x0201#16 0x00#8, wr 0x01FF#16 0xFF#8] = true := by
  decide +kernel

theorem test_V45_pla : goes (at_ allRam 0x0200#16 ⟨0x00#8, 0x00#8, 0x00#8, 0xFF#8, fl []⟩
      [(0x0100, 0x80#8), (0x01FF, 0x33#8), (0x0200, 0x68#8)])
    ⟨0x80#8, 0x00#8, 0x00#8, 0x00#8, fl ['N']⟩ 0x0201#16
    [(0x0100, 0x80#8), (0x01FF, 0x33#8), (0x0200, 0x68#8)]
    [rd 0x0200#16 0x68#8, rd 0x0201#16 0x00#8, rd 0x01FF#16 0x33#8, rd 0x0100#16 0x80#8] = true := by
  decide +kernel

theorem test_V47_plp : goes (at_ allRam 0x0200#16 ⟨0x00#8, 0x00#8, 0x00#8, 0xFE#8, fl ['N', 'V', 'D', 'I', 'Z', 'C']⟩
      [(0x0200, 0x28#8)])
    ⟨0x00#8, 0x00#8, 0x00#8, 0xFF#8, fl []⟩ 0x0201#16
    [(0x0200, 0x28#8)]
    [rd 0x0200#16 0x28#8, rd 0x0201#16 0x00#8, rd 0x01FE#16 0x00#8, rd 0x01FF#16 0x00#8] = true := by
  decide +kernel

theorem test_V54_adcImm : goes (at_ allRam 0x0200#16 ⟨0x7F#8, 0x00#8, 0x00#8, 0xFF#8, fl []⟩
      [(0x0200, 0x69#8), (0x0201, 0x01#8)])
    ⟨0x80#8, 0x00#8, 0x00#8, 0xFF#8, fl ['N', 'V']⟩ 0x0202#16
    [(0x0200, 0x69#8), (0x0201, 0x01#8)]
    [rd 0x0200#16 0x69#8, rd 0x0201#16 0x01#8] = true := by
  decide +kernel

theorem test_V62_adcImm : goes (at_ allRam 0x0200#16 ⟨0x99#8, 0x00#8, 0x00#8, 0xFF#8, fl ['D']⟩
      [(0x0200, 0x69#8), (0x0201, 0x01#8)])
    ⟨0x00#8, 0x00#8, 0x00#8, 0xFF#8, fl ['N', 'D', 'C']⟩ 0x0202#16
    [(0x0200, 0x69#8), (0x0201, 0x01#8)]
    [rd 0x0200#16 0x69#8, rd 0x0201#16 0x01#8] = true := by
  decide +kernel

theorem test_V60_adcIzy : goes (at_ allRam 0x0200#16 ⟨0x01#8, 0x00#8, 0x01#8, 0xFF#8, fl []⟩
      [(0x0010, 0xFF#8), (0x0011, 0x02#8), (0x0200, 0x71#8), (0x0201, 0x10#8), (0x0300, 0x7F#8)])
    ⟨0x80#8, 0x00#8, 0x01#8, 0xFF#8, fl ['N', 'V']⟩ 0x0202#16
    [(0x0010, 0xFF#8), (0x0011, 0x02#8), (0x0200, 0x71#8), (0x0201, 0x10#8), (0x0300, 0x7F#8)]
    [rd 0x0200#16 0x71#8, rd 0x0201#16 0x10#8, rd 0x0010#16 0xFF#8, rd 0x0011#16 0x02#8, rd 0x0200#16 0x71#8, rd 0x0300#16 0x7F#8] = true := by
  decide +kernel

theorem test_V68_adcImm : goes (at_ allRam 0x0200#16 ⟨0x0F#8, 0x00#8, 0x00#8, 0xFF#8, fl ['D']⟩
      [(0x0200, 0x69#8), (0x0201, 0x0F#8)])
    ⟨0x14#8, 0x00#8, 0x00#8, 0xFF#8, fl ['D']⟩ 0x0202#16
    [(0x0200, 0x69#8), (0x0201, 0x0F#8)]
    [rd 0x0200#16 0x69#8, rd 0x0201#16 0x0F#8] = true := by
  decide +kernel

theorem test_V72_sbcImm : goes (at_ allRam 0x0200#16 ⟨0x00#8, 0x00#8, 0x00#8, 0xFF#8, fl ['C']⟩
      [(0x0200, 0xE9#8), (0x0201, 0x01#8)])
    ⟨0xFF#8, 0x00#8, 0x00#8, 0xFF#8, fl ['N']⟩ 0x0202#16
    [(0x0200, 0xE9#8), (0x0201, 0x01#8)]
    [rd 0x0200#16 0xE9#8, rd 0x0201#16 0x01#8] = true := by
  decide +kernel

theorem test_V77_sbcImm : goes (at_ allRam 0x0200#16 ⟨0x00#8, 0x00#8, 0x00#8, 0xFF#8, fl ['D', 'C']⟩
      [(0x0200, 0xE9#8), (0x0201, 0x01#8)])
    ⟨0x99#8, 0x00#8, 0x00#8, 0xFF#8, fl ['N', 'D']⟩ 0x0202#16
    [(0x0200, 0xE9#8), (0x0201, 0x01#8)]
    [rd 0x0200#16 0xE9#8, rd 0x0201#16 0x01#8] = true := by
  decide +kernel

theorem test_V84_cmpImm : goes (at_ allRam 0x0200#16 ⟨0x10#8, 0x00#8, 0x00#8, 0xFF#8, fl []⟩
      [(0x0200, 0xC9#8), (0x0201, 0x20#8)])
    ⟨0x10#8, 0x00#8, 0x00#8, 0xFF#8, fl ['N']⟩ 0x0202#16
    [(0x0200, 0xC9#8), (0x0201, 0x20#8)]
    [rd 0x0200#16 0xC9#8, rd 0x0201#16 0x20#8] = true := by
  decide +kernel

theorem test_V89_cpxImm : goes (at_ allRam 0x0200#16 ⟨0x00#8, 0x00#8, 0x00#8, 0xFF#8, fl ['N']⟩
      [(0x0200, 0xE0#8)])
    ⟨0x00#8, 0x00#8, 0x00#8, 0xFF#8, fl ['Z', 'C']⟩ 0x0202#16
    [(0x0200, 0xE0#8)]
    [rd 0x0200#16 0xE0#8, rd 0x0201#16 0x00#8] = true := by
  decide +kernel

theorem test_V92_cpyZp : goes (at_ allRam 0x0200#16 ⟨0x00#8, 0x00#8, 0xFF#8, 0xFF#8, fl []⟩
      [(0x0010, 0x01#8), (0x0200, 0xC4#8), (0x0201, 0x10#8)])
    ⟨0x00#8, 0x00#8, 0xFF#8, 0xFF#8, fl ['N', 'C']⟩ 0x0202#16
    [(0x0010, 0x01#8), (0x0200, 0xC4#8), (0x0201, 0x10#8)]
    [rd 0x0200#16 0xC4#8, rd 0x0201#16 0x10#8, rd 0x0010#16 0x01#8] = true := by
  decide +kernel

theorem test_V95_incAbx : goes (at_ allRam 0x0200#16 ⟨0x00#8, 0x01#8, 0x00#8, 0xFF#8, fl []⟩
      [(0x0200, 0xFE#8), (0x0201, 0xFF#8), (0x0202, 0x30#8), (0x3000, 0xEE#8), (0x3100, 0x01#8)])
    ⟨0x00#8, 0x01#8, 0x00#8, 0xFF#8, fl []⟩ 0x0203#16
    [(0x0200, 0xFE#8), (0x0201, 0xFF#8), (0x0202, 0x30#8), (0x3000, 0xEE#8), (0x3100, 0x02#8)]
    [rd 0x0200#16 0xFE#8, rd 0x0201#16 0xFF#8, rd 0x0202#16 0x30#8, rd 0x3000#16 0xEE#8, rd 0x3100#16 0x01#8, wr 0x3100#16 0x01#8, wr 0x3100#16 0x02#8] = true := by
  decide +kernel

theorem test_V99_decAbx : goes (at_ allRam 0x0200#16 ⟨0x00#8, 0x10#8, 0x00#8, 0xFF#8, fl []⟩
      [(0x0200, 0xDE#8), (0x0202, 0x30#8), (0x3010, 0x80#8)])
    ⟨0x00#8, 0x10#8, 0x00#8, 0xFF#8, fl []⟩ 0x0203#16
    [(0x0200, 0xDE#8), (0x0202, 0x30#8), (0x3010, 0x7F#8)]
    [rd 0x0200#16 0xDE#8, rd 0x0201#16 0x00#8, rd 0x0202#16 0x30#8, rd 0x3010#16 0x80#8, rd 0x3010#16 0x80#8, wr 0x3010#16 0x80#8, wr 0x3010#16 0x7F#8] = true := by
  decide +kernel

theorem test_V102_iny : goes (at_ allRam 0x0200#16 ⟨0x00#8, 0x00#8, 0xFF#8, 0xFF#8, fl ['C']⟩
      [(0x0200, 0xC8#8)])
    ⟨0x00#8, 0x00#8, 0x00#8, 0xFF#8, fl ['Z', 'C']⟩ 0x0201#16
    [(0x0200, 0xC8#8)]
    [rd 0x0200#16 0xC8#8, rd 0x0201#16 0x00#8] = true := by
  decide +kernel

theorem test_V105_dey : goes (at_ allRam 0x0200#16 ⟨0x00#8, 0x00#8, 0x80#8, 0xFF#8, fl []⟩
      [(0x0200, 0x88#8)])
    ⟨0x00#8, 0x00#8, 0x7F#8, 0xFF#8, fl []⟩ 0x0201#16
    [(0x0200, 0x88#8)]
    [rd 0x0200#16 0x88#8, rd 0x0201#16 0x00#8] = true := by
  decide +kernel

theorem test_V108_andAby : goes (at_ allRam 0x0200#16 ⟨0xFF#8, 0x00#8, 0x01#8, 0xFF#8, fl []⟩
      [(0x0200, 0x39#8), (0x0201, 0xFF#8), (0x0202, 0x02#8), (0x0300, 0x55#8)])
    ⟨0x55#8, 0x00#8, 0x01#8, 0xFF#8, fl []⟩ 0x0203#16
    [(0x0200, 0x39#8), (0x0201, 0xFF#8), (0x0202, 0x02#8), (0x0300, 0x55#8)]
    [rd 0x0200#16 0x39#8, rd 0x0201#16 0xFF#8, rd 0x0202#16 0x02#8, rd 0x0200#16 0x39#8, rd 0x0300#16 0x55#8] = true := by
  decide +kernel

theorem test_V111_oraIzx : goes (at_ allRam 0x0200#16 ⟨0x0F#8, 0x00#8, 0x00#8, 0xFF#8, fl []⟩
      [(0x0011, 0x30#8), (0x0200, 0x01#8), (0x0201, 0x10#8), (0x3000, 0x30#8)])
    ⟨0x3F#8, 0x00#8, 0x00#8, 0xFF#8, fl []⟩ 0x0202#16
    [(0x0011, 0x30#8), (0x0200, 0x01#8), (0x0201, 0x10#8), (0x3000, 0x30#8)]
    [rd 0x0200#16 0x01#8, rd 0x0201#16 0x10#8, rd 0x0010#16 0x00#8, rd 0x0010#16 0x00#8, rd 0x0011#16 0x30#8, rd 0x3000#16 0x30#8] = true := by
  decide +kernel

theorem test_V114_eorZp : goes (at_ allRam 0x0200#16 ⟨0xAA#8, 0x00#8, 0x00#8, 0xFF#8, fl []⟩
      [(0x0010, 0x55#8), (0x0200, 0x45#8), (0x0201, 0x10#8)])
    ⟨0xFF#8, 0x00#8, 0x00#8, 0xFF#8, fl ['N']⟩ 0x0202#16
    [(0x0010, 0x55#8), (0x0200, 0x45#8), (0x0201, 0x10#8)]
    [rd 0x0200#16 0x45#8, rd 0x0201#16 0x10#8, rd 0x0010#16 0x55#8] = true := by
  decide +kernel

theorem test_V116_bitZp : goes (at_ allRam 0x0200#16 ⟨0xFF#8, 0x00#8, 0x00#8, 0xFF#8, fl ['N', 'V']⟩
      [(0x0010, 0x01#8), (0x0200, 0x24#8), (0x0201, 0x10#8)])
    ⟨0xFF#8, 0x00#8, 0x00#8, 0xFF#8, fl []⟩ 0x0202#16
    [(0x0010, 0x01#8), (0x0200, 0x24#8), (0x0201, 0x10#8)]
    [rd 0x0200#16 0x24#8, rd 0x0201#16 0x10#8, rd 0x0010#16 0x01#8] = true := by
  decide +kernel

theorem test_V121_aslZp : goes (at_ allRam 0x0200#16 ⟨0x00#8, 0x00#8, 0x00#8, 0xFF#8, fl []⟩
      [(0x0010, 0xC0#8), (0x0200, 0x06#8), (0x0201, 0x10#8)])
    ⟨0x00#8, 0x00#8, 0x00#8, 0xFF#8, fl ['N', 'C']⟩ 0x0202#16
    [(0x0010, 0x80#8), (0x0200, 0x06#8), (0x0201, 0x10#8)]
    [rd 0x0200#16 0x06#8, rd 0x0201#16 0x10#8, rd 0x0010#16 0xC0#8, wr 0x0010#16 0xC0#8, wr 0x0010#16 0x80#8] = true := by
  decide +kernel

theorem test_V123_lsrAcc : goes (at_ allRam 0x0200#16 ⟨0x80#8, 0x00#8, 0x00#8, 0xFF#8, fl ['C']⟩
      [(0x0200, 0x4A#8)])
    ⟨0x40#8, 0x00#8, 0x00#8, 0xFF#8, fl []⟩ 0x0201#16
    [(0x0200, 0x4A#8)]
    [rd 0x0200#16 0x4A#8, rd 0x0201#16 0x00#8] = true := by
  decide +kernel

theorem test_V127_rolZpx : goes (at_ allRam 0x0200#16 ⟨0x00#8, 0x01#8, 0x00#8, 0xFF#8, fl ['C']⟩
      [(0x0011, 0x7F#8), (0x0200, 0x36#8), (0x0201, 0x10#8)])
    ⟨0x00#8, 0x01#8, 0x00#8, 0xFF#8, fl ['N']⟩ 0x0202#16
    [(0x0011, 0xFF#8), (0x0200, 0x36#8), (0x0201, 0x10#8)]
    [rd 0x0200#16 0x36#8, rd 0x0201#16 0x10#8, rd 0x0010#16 0x00#8, rd 0x0011#16 0x7F#8, wr 0x0011#16 0x7F#8, wr 0x0011#16 0xFF#8] = true := by
  decide +kernel

theorem test_V130_rorAbx : goes (at_ allRam 0x0200#16 ⟨0x00#8, 0x80#8, 0x00#8, 0xFF#8, fl ['C']⟩
      [(0x0200, 0x7E#8), (0x0201, 0x80#8), (0x0202, 0x30#8), (0x3000, 0x99#8), (0x3100, 0x02#8)])
    ⟨0x00#8, 0x80#8, 0x00#8, 0xFF#8, fl ['N']⟩ 0x0203#16
    [(0x0200, 0x7E#8), (0x0201, 0x80#8), (0x0202, 0x30#8), (0x3000, 0x99#8), (0x3100, 0x81#8)]
    [rd 0x0200#16 0x7E#8, rd 0x0201#16 0x80#8, rd 0x0202#16 0x30#8, rd 0x3000#16 0x99#8, rd 0x3100#16 0x02#8, wr 0x3100#16 0x02#8, wr 0x3100#16 0x81#8] = true := by
  decide +kernel

theorem test_V131_jmpAbs : goes (at_ allRam 0x0200#16 ⟨0x00#8, 0x00#8, 0x00#8, 0xFF#8, fl []⟩
      [(0x0200, 0x4C#8), (0x0201, 0x34#8), (0x0202, 0x12#8)])
    ⟨0x00#8, 0x00#8, 0x00#8, 0xFF#8, fl []⟩ 0x1234#16
    [(0x0200, 0x4C#8), (0x0201, 0x34#8), (0x0202, 0x12#8)]
    [rd 0x0200#16 0x4C#8, rd 0x0201#16 0x34#8, rd 0x0202#16 0x12#8] = true := by
  decide +kernel

theorem test_V134_jmpInd : goes (at_ allRam 0x0200#16 ⟨0x00#8, 0x00#8, 0x00#8, 0xFF#8, fl []⟩
      [(0x0200, 0x6C#8), (0x0201, 0xFF#8), (0x0202, 0x03#8), (0x0300, 0x56#8), (0x03FF, 0x34#8), (0x0400, 0x99#8)])
    ⟨0x00#8, 0x00#8, 0x00#8, 0xFF#8, fl []⟩ 0x5634#16
    [(0x0200, 0x6C#8), (0x0201, 0xFF#8), (0x0202, 0x03#8), (0x0300, 0x56#8), (0x03FF, 0x34#8), (0x0400, 0x99#8)]
    [rd 0x0200#16 0x6C#8, rd 0x0201#16 0xFF#8, rd 0x0202#16 0x03#8, rd 0x03FF#16 0x34#8, rd 0x0300#16 0x56#8] = true := by
  decide +kernel

theorem test_V138_jsr : goes (at_ allRam 0x80FE#16 ⟨0x00#8, 0x00#8, 0x00#8, 0xFF#8, fl []⟩
      [(0x80FE, 0x20#8), (0x80FF, 0x34#8), (0x8100, 0x12#8)])
    ⟨0x00#8, 0x00#8, 0x00#8, 0xFD#8, fl []⟩ 0x1234#16
    [(0x01FF, 0x81#8), (0x80FE, 0x20#8), (0x80FF, 0x34#8), (0x8100, 0x12#8)]
    [rd 0x80FE#16 0x20#8, rd 0x80FF#16 0x34#8, rd 0x01FF#16 0x00#8, wr 0x01FF#16 0x81#8, wr 0x01FE#16 0x00#8, rd 0x8100#16 0x12#8] = true := by
  decide +kernel

theorem test_V141_rts : goes (at_ allRam 0x0200#16 ⟨0x00#8, 0x00#8, 0x00#8, 0xFF#8, fl []⟩
      [(0x0100, 0x10#8), (0x0101, 0x20#8), (0x0200, 0x60#8)])
    ⟨0x00#8, 0x00#8, 0x00#8, 0x01#8, fl []⟩ 0x2011#16
    [(0x0100, 0x10#8), (0x0101, 0x20#8), (0x0200, 0x60#8)]
    [rd 0x0200#16 0x60#8, rd 0x0201#16 0x00#8, rd 0x01FF#16 0x00#8, rd 0x0100#16 0x10#8, rd 0x0101#16 0x20#8, rd 0x2010#16 0x00#8] = true := by
  decide +kernel

theorem test_V144_bcc : goes (at_ allRam 0x0200#16 ⟨0x00#8, 0x00#8, 0x00#8, 0xFF#8, fl ['C']⟩
      [(0x0200, 0x90#8), (0x0201, 0x10#8)])
    ⟨0x00#8, 0x00#8, 0x00#8, 0xFF#8, fl ['C']⟩ 0x0202#16
    [(0x0200, 0x90#8), (0x0201, 0x10#8)]
    [rd 0x0200#16 0x90#8, rd 0x0201#16 0x10#8] = true := by
  decide +kernel

theorem test_V147_beq : goes (at_ allRam 0x0200#16 ⟨0x00#8, 0x00#8, 0x00#8, 0xFF#8, fl ['Z']⟩
      [(0x0200, 0xF0#8), (0x0201, 0x80#8)])
    ⟨0x00#8, 0x00#8, 0x00#8, 0xFF#8, fl ['Z']⟩ 0x0182#16
    [(0x0200, 0xF0#8), (0x0201, 0x80#8)]
    [rd 0x0200#16 0xF0#8, rd 0x0201#16 0x80#8, rd 0x0202#16 0x00#8, rd 0x0282#16 0x00#8] = true := by
  decide +kernel

theorem test_V148_bne : goes (at_ allRam 0x0200#16 ⟨0x00#8, 0x00#8, 0x00#8, 0xFF#8, fl []⟩
      [(0x0200, 0xD0#8), (0x0201, 0xFC#8)])
    ⟨0x00#8, 0x00#8, 0x00#8, 0xFF#8, fl []⟩ 0x01FE#16
    [(0x0200, 0xD0#8), (0x0201, 0xFC#8)]
    [rd 0x0200#16 0xD0#8, rd 0x0201#16 0xFC#8, rd 0x0202#16 0x00#8, rd 0x02FE#16 0x00#8] = true := by
  decide +kernel

theorem test_V152_bpl : goes (at_ allRam 0x0300#16 ⟨0x00#8, 0x00#8, 0x00#8, 0xFF#8, fl []⟩
      [(0x0300, 0x10#8), (0x0301, 0xFD#8)])
    ⟨0x00#8, 0x00#8, 0x00#8, 0xFF#8, fl []⟩ 0x02FF#16
    [(0x0300, 0x10#8), (0x0301, 0xFD#8)]
    [rd 0x0300#16 0x10#8, rd 0x0301#16 0xFD#8, rd 0x0302#16 0x00#8, rd 0x03FF#16 0x00#8] = true := by
  decide +kernel

theorem test_V154_bvc : goes (at_ allRam 0xFFF0#16 ⟨0x00#8, 0x00#8, 0x00#8, 0xFF#8, fl []⟩
      [(0xFFF0, 0x50#8), (0xFFF1, 0x20#8)])
    ⟨0x00#8, 0x00#8, 0x00#8, 0xFF#8, fl []⟩ 0x0012#16
    [(0xFFF0, 0x50#8), (0xFFF1, 0x20#8)]
    [rd 0xFFF0#16 0x50#8, rd 0xFFF1#16 0x20#8, rd 0xFFF2#16 0x00#8, rd 0xFF12#16 0x00#8] = true := by
  decide +kernel

theorem test_V155_bvs : goes (at_ allRam 0x0000#16 ⟨0x00#8, 0x00#8, 0x00#8, 0xFF#8, fl ['V']⟩
      [(0x0000, 0x70#8), (0x0001, 0xFD#8)])
    ⟨0x00#8, 0x00#8, 0x00#8, 0xFF#8, fl ['V']⟩ 0xFFFF#16
    [(0x0000, 0x70#8), (0x0001, 0xFD#8)]
    [rd 0x0000#16 0x70#8, rd 0x0001#16 0xFD#8, rd 0x0002#16 0x00#8, rd 0x00FF#16 0x00#8] = true := by
  decide +kernel

theorem test_V161_cli : goes (at_ allRam 0x0200#16 ⟨0x00#8, 0x00#8, 0x00#8, 0xFF#8, fl ['I']⟩
      [(0x0200, 0x58#8)])
    ⟨0x00#8, 0x00#8, 0x00#8, 0xFF#8, fl []⟩ 0x0201#16
    [(0x0200, 0x58#8)]
    [rd 0x0200#16 0x58#8, rd 0x0201#16 0x00#8] = true := by
  decide +kernel

theorem test_V166_nop : goes (at_ allRam 0x0200#16 ⟨0x00#8, 0x00#8, 0x00#8, 0xFF#8, fl ['N', 'V', 'D', 'I', 'Z', 'C']⟩
      [(0x0200, 0xEA#8)])
    ⟨0x00#8, 0x00#8, 0x00#8, 0xFF#8, fl ['N', 'V', 'D', 'I', 'Z', 'C']⟩ 0x0201#16
    [(0x0200, 0xEA#8)]
    [rd 0x0200#16 0xEA#8, rd 0x0201#16 0x00#8] = true := by
  decide +kernel

theorem test_V168_brk : goes (at_ allRam 0x0300#16 ⟨0x00#8, 0x00#8, 0x00#8, 0x01#8, fl ['N', 'D', 'C']⟩
      [(0x0301, 0xEA#8), (0xFFFF, 0xC0#8)])
    ⟨0x00#8, 0x00#8, 0x00#8, 0xFE#8, fl ['N', 'D', 'I', 'C']⟩ 0xC000#16
    [(0x0100, 0x02#8), (0x0101, 0x03#8), (0x01FF, 0xB9#8), (0x0301, 0xEA#8), (0xFFFF, 0xC0#8)]
    [rd 0x0300#16 0x00#8, rd 0x0301#16 0xEA#8, wr 0x0101#16 0x03#8, wr 0x0100#16 0x02#8, wr 0x01FF#16 0xB9#8, rd 0xFFFE#16 0x00#8, rd 0xFFFF#16 0xC0#8] = true := by
  decide +kernel

theorem test_V172_rti : goes (at_ allRam 0x0200#16 ⟨0x00#8, 0x00#8, 0x00#8, 0xFE#8, fl []⟩
      [(0x0100, 0x10#8), (0x0101, 0x20#8), (0x01FF, 0x81#8), (0x0200, 0x40#8)])
    ⟨0x00#8, 0x00#8, 0x00#8, 0x01#8, fl ['N', 'C']⟩ 0x2010#16
    [(0x0100, 0x10#8), (0x0101, 0x20#8), (0x01FF, 0x81#8), (0x0200, 0x40#8)]
    [rd 0x0200#16 0x40#8, rd 0x0201#16 0x00#8, rd 0x01FE#16 0x00#8, rd 0x01FF#16 0x81#8, rd 0x0100#16 0x10#8, rd 0x0101#16 0x20#8] = true := by
  decide +kernel

theorem test_V175_undFF : goes (at_ allRam 0x0200#16 ⟨0x12#8, 0x00#8, 0x00#8, 0xFF#8, fl ['N', 'C']⟩
      [(0x0200, 0xFF#8), (0x0201, 0xEA#8)])
    ⟨0x12#8, 0x00#8, 0x00#8, 0xFF#8, fl ['N', 'C']⟩ 0x0201#16
    [(0x0200, 0xFF#8), (0x0201, 0xEA#8)]
    [rd 0x0200#16 0xFF#8, rd 0x0201#16 0xEA#8] = true := by
  decide +kernel

/-- V177: under `Halt` an undefined opcode takes one tick and leaves the core halted. -/
theorem test_V177_halt : stepsTo (at_ { allRam with illegalAction := .halt } 0x0200#16 ⟨0#8, 0#8, 0#8, 0xFF#8, fl []⟩
      [(0x0200, 0x02#8), (0x0201, 0xEA#8)]) (fun t =>
    t.cpu.phase == .halted && t.cpu.illegal == ⟨true, 0x02#8, 0x0200#16⟩ && t.cpu.pc == 0x0201#16 &&
      coreTrace t == [rd 0x0200#16 0x02#8]) = true := by
  decide +kernel

/-- V182: the two writes of INC to a read-only region change nothing there. -/
theorem test_V182_incRom : goes (at_ (withRom [(0xC000, 0x7F#8)]) 0x0200#16 ⟨0#8, 0#8, 0#8, 0xFF#8, fl []⟩
      [(0x0200, 0xEE#8), (0x0202, 0xC0#8)])
    ⟨0#8, 0#8, 0#8, 0xFF#8, fl ['N']⟩ 0x0203#16 [(0x0200, 0xEE#8), (0x0202, 0xC0#8)]
    [rd 0x0200#16 0xEE#8, rd 0x0201#16 0x00#8, rd 0x0202#16 0xC0#8, rd 0xC000#16 0x7F#8, wr 0xC000#16 0x7F#8,
      wr 0xC000#16 0x80#8] = true := by
  decide +kernel

/-- V184: an unmapped address reads the open-bus value, and each access to it is counted. -/
theorem test_V184_unmapped : stepsTo (at_ withHole 0x0200#16 ⟨0#8, 0#8, 0#8, 0xFF#8, fl []⟩
      [(0x0200, 0xEE#8), (0x0202, 0x80#8)]) (fun t =>
    t.sched.unmappedCount == 3 && t.mem == [(0x0200, 0xEE#8), (0x0202, 0x80#8)] &&
      (coreTrace t).drop 3 == [rd 0x8000#16 0xA5#8, wr 0x8000#16 0xA5#8, wr 0x8000#16 0xA6#8]) = true := by
  decide +kernel

/-! ## Interrupts (section 4 of the vectors) -/

/-- The IRQ sequence of scenario 4.2, from tick 5. -/
theorem test_irq_sequence : goes
    (let s := at_ allRam 0x0202#16 ⟨0#8, 0#8, 0#8, 0xFF#8, fl []⟩ [(0x0202, 0xEA#8), (0xFFFF, 0xD0#8)]
     { s with sched := { s.sched with linesOut := [(.irq, .environment)] } })
    ⟨0#8, 0#8, 0#8, 0xFC#8, fl ['I']⟩ 0xD000#16
    [(0x01FD, 0x20#8), (0x01FE, 0x02#8), (0x01FF, 0x02#8), (0x0202, 0xEA#8), (0xFFFF, 0xD0#8)]
    [rd 0x0202#16 0xEA#8, rd 0x0202#16 0xEA#8, wr 0x01FF#16 0x02#8, wr 0x01FE#16 0x02#8, wr 0x01FD#16 0x20#8,
      rd 0xFFFE#16 0x00#8, rd 0xFFFF#16 0xD0#8] = true := by
  decide +kernel

/-- The power-on sequence of scenario 4.6, ticks 1 to 7. -/
theorem test_power_on_sequence : goes
    (let s := State.powerOn allRam
     { s with
       cpu := { s.cpu with regs := ⟨0xAA#8, 0xBB#8, 0xCC#8, 0x56#8, fl ['N', 'V', 'D', 'Z', 'C']⟩, pc := 0x1234#16 }
       mem := [(0xFFFD, 0xC0#8)] })
    ⟨0xAA#8, 0xBB#8, 0xCC#8, 0x53#8, fl ['N', 'V', 'D', 'I', 'Z', 'C']⟩ 0xC000#16 [(0xFFFD, 0xC0#8)]
    [rd 0x1234#16 0#8, rd 0x1234#16 0#8, rd 0x0156#16 0#8, rd 0x0155#16 0#8, rd 0x0154#16 0#8, rd 0xFFFC#16 0x00#8,
      rd 0xFFFD#16 0xC0#8] = true := by
  decide +kernel

/-! ## The schedule (rules R7, R70, R71) -/

/-- With the divider 2 the core acts in ticks 2 and 4: LDA # takes four ticks and the same transactions, and the
timing generator, which acts in every tick, is four positions further. -/
theorem test_divided_core : stepsTo
    (at_ { allRam with clockRates := ⟨2, 1, 1, [], 1⟩, vtg := { VtgCfg.default with reset := ⟨200, 3, 3, 2, 1, 1, 2, 2, 0, 1, 0⟩ } }
      0x0200#16 ⟨0#8, 0#8, 0#8, 0xFF#8, fl []⟩ [(0x0200, 0xA9#8), (0x0201, 0x80#8)]) (fun t =>
    t.sched.tickCount == 4 && t.cpu.regs.a == 0x80#8 && t.vtg.hcount == 4 &&
      coreTrace t == [rd 0x0200#16 0xA9#8, rd 0x0201#16 0x80#8]) = true := by
  decide +kernel

/-- With the divider 2 the timing generator acts in one of the two ticks of LDA #. -/
theorem test_divided_vtg : stepsTo
    (at_ { allRam with clockRates := ⟨1, 2, 1, [], 1⟩, vtg := { VtgCfg.default with reset := ⟨200, 3, 3, 2, 1, 1, 2, 2, 0, 1, 0⟩ } }
      0x0200#16 ⟨0#8, 0#8, 0#8, 0xFF#8, fl []⟩ [(0x0200, 0xA9#8), (0x0201, 0x80#8)]) (fun t =>
    t.sched.tickCount == 2 && t.vtg.hcount == 1) = true := by
  decide +kernel

/-- Two serial chips with the dividers 1 and 2: in two ticks the transmit time of the first goes down twice, that of
the second once (rules R71, R362). -/
theorem test_divided_if_chips :
    let c : Config :=
      { Config.default with
        clockRates := ⟨1, 1, 1, [1, 2], 1⟩
        ifChips := [⟨.serial .default, .irq⟩, ⟨.serial .default, .irq⟩] }
    let sending : IfChip := ⟨.serial ⟨0#8, false, 5, 0#8, false, false, false, false⟩, [], none⟩
    let s := { at_ c 0#16 default [] with ifChips := [sending, sending] }
    ((idleTicks 2 s).ifChips.map fun chip => match chip.unit with | .serial u => u.txTimer | _ => 0) = [3, 4] := by
  decide +kernel

/-- PHA with another stack base. -/
theorem test_stack_base : stepsTo
    (at_ { allRam with stackBase := 0x4000#16 } 0x0200#16 ⟨0x5A#8, 0#8, 0#8, 0x00#8, fl []⟩ [(0x0200, 0x48#8)]) (fun t =>
    (coreTrace t).drop 2 == [wr 0x4000#16 0x5A#8] && t.cpu.regs.s == 0xFF#8) = true := by
  decide +kernel

/-- A wire from the interrupt output of chip 0 to a strobe of chip 1: the event comes with the boundary after the
change, and not again (rules R358, R359). -/
theorem test_wire_from_chip :
    let wired : Config :=
      { Config.default with
        ifChips := [⟨.parallel .default, .irq⟩, ⟨.parallel .default, .irq⟩]
        wires := [⟨.ifIrq 0, true, 1, .strobe .b⟩] }
    let s := boundary (at_ wired 0#16 default [])
    let raised := { s with ifChips := s.ifChips.set 0 ⟨.parallel ⟨0#8, 0#8, 0#8, true, true⟩ (.powerOn .default .b), [], none⟩ }
    let t := boundary raised
    (s.ifChips.map fun c => c.extLatch) = [none, none] ∧ (t.ifChips.map fun c => c.extLatch) = [none, some (.strobe .b)] ∧
      ((boundary t).ifChips.map fun c => c.extLatch) = [none, none] := by
  decide +kernel

/-- Reset values of a register map (rule R7). -/
theorem test_chip_reset_values :
    (IfChip.powerOn ⟨.parallel { ParLayout.default with resets := [(.ddr .a, 0xF0#8), (.control, 0x02#8)] }, .irq⟩).unit =
      .parallel ⟨0#8, 0xF0#8, 0xFF#8, false, false⟩ ⟨0#8, 0#8, 0xFF#8, false, true⟩ := by
  decide

/-! ## Peripherals (section 6 of the vectors) -/

/-- The timing generator of section 6.1. -/
def vtg61 : VtgCfg :=
  { VtgCfg.default with ticksPerChar := 2, reset := ⟨4, 3, 3, 2, 1, 1, 2, 2, 0x0100, 1, 0⟩ }

theorem test_frame_61 :
    (let g := vtgTicks vtg61 16 (.powerOn vtg61); (g.hcount, g.vcount, g.ma, g.vsync, g.lineStart)) = (0, 2, 4, true, true) ∧
    (let g := vtgTicks vtg61 30 (.powerOn vtg61); (g.hcount, g.vcount, g.ma, g.hsync, g.displayEnable)) =
      (3, 0, 0x0103, true, false) ∧
    (let g := vtgTicks vtg61 48 (.powerOn vtg61); (g.ma, g.frameStart, g.field)) = (0x0100, true, false) := by
  decide +kernel

/-- Section 6.3: both writes wait for the boundary of tick 8 and the last one wins. -/
theorem test_deferred_63 :
    let c : VtgCfg := { VtgCfg.default with ticksPerChar := 4, reset := ⟨8, 4, 0, 0, 0, 0, 4, 4, 0, 0, 0⟩ }
    let g := vtgTicks c 5 (.powerOn c)
    let h := vtgWrite c 1 3#8 (vtgWrite c 0 1#8 g)
    let k := vtgTicks c 2 (vtgWrite c 1 1#8 (vtgTicks c 1 h))
    h.pending.length = 1 ∧ (vtgTicks c 1 h).reg.hDisplayed = 4 ∧ k.reg.hDisplayed = 1 ∧ k.pending = [] ∧
      (k.hcount, k.displayEnable) = (2, false) := by
  decide +kernel

theorem test_unpack : unpack .default 2 0xE4#8 = [3, 2, 1, 0] ∧ unpack .default 4 0x5A#8 = [5, 10] ∧
    unpack .default 8 0x5A#8 = [90] := by decide

/-- A programmed policy: the value 1 of the field selects the second entry of the table (rule R318). -/
theorem test_programmed_policy :
    let c : VtgCfg := { VtgCfg.default with policy := .programmed [.nonInterlaced, .interlaced] }
    let r (p : Nat) : VtgRegs := ⟨4, 4, 0, 0, 0, 0, 2, 4, 0x10, 8, p⟩
    frameStartPolicy c (r 0) true = (0x10, 0) ∧ frameStartPolicy c (r 1) true = (0x10, 1) ∧
      nextLinePolicy c (r 0) 0x10 3 true = (0x10, 4) ∧ nextLinePolicy c (r 1) 0x10 3 true = (0x10, 5) := by
  decide

/-- Each write of the palette stays in its place and within its component; read-only bits keep their value. -/
theorem test_mixer_registers :
    let c := MixerCfg.default
    let r := mixerWrite c 2 0xFF#8 (mixerWrite c 1 0x13#8 (mixerWrite c 0 0xFE#8 c.resetRegs))
    r.mode = 2 ∧ r.index = 3 ∧ r.palette = (List.replicate 16 ⟨0, 0, 0⟩).set 3 ⟨1, 0, 0⟩ ∧
      mixerRegRead Config.default 2 r = 1#8 ∧ mixerRegRead Config.default 9 r = Config.default.openBus := by
  decide

/-- The teletext parameters of section 6.4. -/
def ttx64 : TtxCfg where
  glyphW := 3
  glyphH := 2
  glyphs := [⟨0x41, 0, [true, false, true]⟩, ⟨0x41, 1, [false, true, false]⟩]
  control := [⟨0x01, .setTextColour 1, .after⟩, ⟨0x0C, .normalHeight, .atOnce⟩, ⟨0x0D, .doubleHeight, .after⟩,
    ⟨0x1D, .newBackground, .atOnce⟩]
  palette := (List.range 8).map fun n => ⟨n, 0, 0⟩
  fgDefault := 7
  bgDefault := 0

/-- The colours of a row of codes. -/
def ttxRow (codes : List Nat) (ra : Nat) (t : Ttx) : List Nat × Ttx :=
  codes.foldl (fun p code => let q := ttxCell ttx64 code ra p.2; (p.1 ++ q.1.map fun x => x.r, q.2)) ([], t)

/-- Section 6.4: character row 0, and the lower halves of row 2. -/
theorem test_teletext_64 :
    (ttxRow [0x41, 0x01, 0x41, 0x1D, 0x41] 0 ⟨7, 0, false, false, false, false⟩).1 =
      [7, 0, 7, 0, 0, 0, 1, 0, 1, 1, 1, 1, 1, 1, 1] ∧
    (ttxRow [0x0D, 0x41, 0x0C, 0x41, 0x20] 0 (ttxLineStart ttx64 true ⟨7, 0, false, false, true, false⟩)).1 =
      [0, 0, 0, 0, 7, 0, 0, 0, 0, 0, 0, 0, 0, 0, 0] := by
  decide +kernel

/-- A parallel chip with the default layout. -/
def parallel : IfUnit :=
  .parallel (.powerOn .default .a) (.powerOn .default .b)

/-- X1 to X3: the direction register, the latch on the output pins, the pins read back. -/
theorem test_X1_X3_parallel :
    let c := Config.default
    let x := ifWrite c 0 2 0xF0#8 parallel
    let y := ifWrite c 0 0 0xA5#8 x.1
    x.2 = [.portOut 0 .a 0x00#8 0xF0#8] ∧ y.2 = [.portOut 0 .a 0xA0#8 0xF0#8] ∧ (ifRead c 0 0 y.1).1 = 0xAF#8 := by
  decide

/-- X6 and X7: the strobe, the status byte, the read that clears the handshake flag. -/
theorem test_X6_X7_handshake :
    let c := Config.default
    let x := applyEvent (ifWrite c 0 5 0x01#8 parallel).1 (.strobe .a)
    let y := (ifRead c 0 0 x).2
    (ifRead c 0 4 x).1 = 0x81#8 ∧ ifIrq x = true ∧ (ifRead c 0 4 y).1 = 0x00#8 ∧ ifIrq y = false := by
  decide

/-- X16 and X17: an overrun, and the read that clears it. -/
theorem test_X16_X17_receive :
    let c := Config.default
    let x := applyEvent (applyEvent (IfChip.powerOn ⟨.serial .default, .irq⟩).unit (.serialRx 0x55#8)) (.serialRx 0x66#8)
    let y := ifRead c 1 1 x
    (ifRead c 1 0 x).1 = 0x23#8 ∧ y.1 = 0x55#8 ∧ (ifRead c 1 0 y.2).1 = 0x02#8 := by
  decide

/-- The drives and parameters of section 6.6. -/
def toy : Config :=
  { allRam with disk := ⟨[⟨3, 2⟩, ⟨3, 2⟩], 4, .byteSum, 16, [none, none]⟩ }

/-- A sector of zeros. -/
def blank : Sector :=
  ⟨[0#8, 0#8, 0#8, 0#8], 0⟩

/-- Track 1, sector 1 of section 6.6. -/
def dead (crc : Nat) : Sector :=
  ⟨[0xDE#8, 0xAD#8, 0xBE#8, 0xEF#8], crc⟩

/-- Drive 0 holds the image of section 6.6, drive 1 none. -/
def toyDrives (crc : Nat) : List (Option Image) :=
  [some [[blank, blank], [blank, dead crc], [blank, blank]], none]

/-- The controller with `TRACK`, `SECTOR` and `DRIVE` written. -/
def fdcAt (track sector drive : Byte) : Fdc :=
  { Fdc.powerOn toy with track := track, sector := sector, drive := drive }

/-- State, status byte and result after a command and `n` updates. -/
def afterCommand (crc n : Nat) (v : Byte) (f : Fdc) : FdcState × Byte × FdcResult :=
  let g := (fdcTicks toy n (toyDrives crc) (fdcCommand toy (toyDrives crc) v f)).1
  (g.state, fdcStatus toy.fdc g, g.result)

/-- F2 without any read by the core, F3, F4 and F7d to F7f. -/
theorem test_floppy_commands :
    afterCommand 0x338 22 0x02#8 (fdcAt 1#8 1#8 0#8) = (.done, 0x29#8, .ok) ∧
    afterCommand 0x339 53 0x02#8 (fdcAt 1#8 1#8 0#8) = (.verifying, 0xA4#8, .none) ∧
    afterCommand 0x339 54 0x02#8 (fdcAt 1#8 1#8 0#8) = (.error, 0x31#8, .crcError) ∧
    afterCommand 0x338 0 0x01#8 (fdcAt 3#8 0#8 0#8) = (.error, 0x11#8, .seekFault) ∧
    afterCommand 0x338 0 0x77#8 (fdcAt 0#8 0#8 0#8) = (.error, 0x11#8, .badCommand) ∧
    afterCommand 0x338 0 0x02#8 (fdcAt 0#8 0#8 1#8) = (.error, 0x11#8, .notReady) ∧
    afterCommand 0x338 0 0x02#8 (fdcAt 0#8 0#8 2#8) = (.error, 0x11#8, .notReady) := by
  decide +kernel

/-- F7c: the format of track 2 ends in tick 40, 31 updates after the command, and leaves track 1 as it was. -/
theorem test_F7c_format :
    let r := fdcTicks toy 31 (toyDrives 0x338) (fdcCommand toy (toyDrives 0x338) 0x04#8 (fdcAt 2#8 0#8 0#8))
    (r.1.state, fdcStatus toy.fdc r.1) = (.done, 0x09#8) ∧
      readSector toy.disk r.2 0 2 1 = some ⟨List.replicate 4 0xE5#8, 0x0394⟩ ∧
      readSector toy.disk r.2 0 1 1 = some (dead 0x338) := by
  decide +kernel

/-- The reference CRC : its initial value, and its published check value (of the digits 1 to 9) (rule R404). -/
theorem test_crc_reference : crcOf { DiskCfg.default with crcFn := .ccitt } [] = 0xFFFF ∧
    crcOf { DiskCfg.default with crcFn := .ccitt }
      [0x31#8, 0x32#8, 0x33#8, 0x34#8, 0x35#8, 0x36#8, 0x37#8, 0x38#8, 0x39#8] = 0x29B1 := by
  decide +kernel

/-! ## Witnesses of the statements' hypotheses -/

/-- Whether an outcome is a next state. -/
def isNext (r : Result) : Bool :=
  match r with
  | .next _ => true
  | _ => false

/-- At the boundary before `LDA #$80`. -/
def beforeLda : State :=
  at_ allRam 0x0200#16 ⟨0#8, 0#8, 0#8, 0xFF#8, fl []⟩ [(0x0200, 0xA9#8), (0x0201, 0x80#8)]

/-- The same with a line driven. -/
def withLine (l : Line) : State :=
  { beforeLda with sched := { beforeLda.sched with linesOut := [(l, .environment)] } }

theorem witness_DecodeOfEncode : Code.wellFormed ⟨.ldaAbx, [0x34#8, 0x12#8]⟩ = true ∧
    Code.wellFormed ⟨.und02, []⟩ = true ∧ Code.fits (withPseudo [slo]).formatOf ⟨.und07, [0x10#8]⟩ = true := by decide

theorem witness_EncodeOfDecode : decode [0xA9#8, 0x80#8, 0xEA#8] = .ok (⟨.ldaImm, [0x80#8]⟩, [0xEA#8]) ∧
    (decodeOpcode 0xEA#8).format.operandLength ≤ ([] : List Byte).length ∧
    (decodeOpcode 0xAD#8).format.operandLength ≤ [0x34#8, 0x12#8].length ∧
    decodeIn (withPseudo [slo]) [0x07#8, 0x10#8] = .ok (⟨.und07, [0x10#8]⟩, []) ∧
    ((withPseudo [slo]).formatOf (decodeOpcode 0x07#8)).operandLength ≤ [0x10#8].length :=
  ⟨rfl, by decide, by decide, rfl, by decide⟩

theorem witness_StepRunsDecoded : beforeLda.cfg.wellFormed = true ∧ beforeLda.cpu.phase = .fetch ∧
    poll (coreView beforeLda).cpu = none ∧
    decodeIn beforeLda.cfg (fetchedByte beforeLda :: [0x80#8]) = .ok (⟨.ldaImm, [0x80#8]⟩, []) ∧
    regionByte beforeLda.cfg beforeLda.mem beforeLda.banks beforeLda.cpu.pc = some 0xA9#8 :=
  ⟨by decide +kernel, rfl, rfl, rfl, by decide +kernel⟩

theorem witness_StepTakesInterrupt : (withLine .irq).cfg.wellFormed = true ∧ (withLine .irq).cpu.phase = .fetch ∧
    poll (coreView (withLine .irq)).cpu = some .irq ∧ poll (coreView (withLine .nmi)).cpu = some .nmi ∧
    poll (coreView (withLine .reset)).cpu = some .reset := by
  decide +kernel

/-- A step answers a next state from each phase: StepIsTicks, StepEndsAtBoundary, StepReplaysMemory and
ConfigurationConstant. -/
theorem witness_step_answers_next : isNext (step beforeLda) = true ∧ isNext (step (withLine .nmi)) = true ∧
    isNext (step State.reset) = true ∧ isNext (step (haltedAt allRam [])) = true ∧
    isNext (step (match tick beforeLda with
      | .next t => t
      | _ => beforeLda)) = true := by
  decide +kernel

theorem witness_StepKeepsInvariant : StepInv beforeLda ∧ isNext (step beforeLda) = true := by
  unfold StepInv banksInv queuesInv vtgInv mixerInv fdcInv drivesInv
  decide +kernel

/-- The machine at power-on with chips whose register maps give a reset value for a register, and none. -/
theorem witness_PowerOnState :
    let l : ParLayout := { ParLayout.default with
      resets := [(.data .a, 0x01#8), (.data .b, 0x80#8), (.ddr .a, 0xF0#8), (.ddr .b, 0xFF#8), (.status, 0x02#8), (.control, 0x03#8)] }
    let m : SerLayout := { SerLayout.default with
      resets := [(.status, 0x23#8), (.control, 0xA0#8), (.txData, 0x55#8), (.rxData, 0xFF#8)] }
    let c : Config := { Config.default with
      ifChips := [⟨.parallel l, .irq⟩, ⟨.serial m, .irq⟩, ⟨.parallel .default, .irq⟩, ⟨.serial .default, .irq⟩] }
    (c.ifChips[0]? = some ⟨.parallel l, .irq⟩ ∧ c.ifChips[1]? = some ⟨.serial m, .irq⟩ ∧
      c.ifChips[2]? = some ⟨.parallel .default, .irq⟩ ∧ c.ifChips[3]? = some ⟨.serial .default, .irq⟩) ∧
    ([.data .a, .data .b, .ddr .a, .ddr .b, .status, .control].map fun r => l.resets.lookup r) =
      [some 0x01#8, some 0x80#8, some 0xF0#8, some 0xFF#8, some 0x02#8, some 0x03#8] ∧
    ([.status, .control, .txData, .rxData].map fun r => m.resets.lookup r) =
      [some 0x23#8, some 0xA0#8, some 0x55#8, some 0xFF#8] ∧
    SerLayout.default.resets = [] ∧ ParLayout.default.resets = [] := by
  decide +kernel

theorem witness_ResetSequenceStep : (State.powerOn toy).cfg.wellFormed = true ∧
    (State.powerOn toy).cpu.phase = .interruptSequence 1 ∧ (State.powerOn toy).cpu.seqKind = .reset ∧
    (let s := State.powerOn { allRam with resetStackWrites := true }
     s.cfg.wellFormed = true ∧ s.cpu.phase = .interruptSequence 1 ∧ s.cpu.seqKind = .reset) := by
  decide +kernel

theorem witness_StepReplaysMemory : Config.default.clockRates.core = 1 := rfl

theorem witness_IllegalOpcodes :
    (beforeLda.cfg.pseudoOpcodes.contains 0x02#8 = false ∧ beforeLda.cfg.illegalAction = .noOp) ∧
    (let s := { beforeLda with cfg := { allRam with illegalAction := .halt } }
     s.cfg.pseudoOpcodes.contains 0xFF#8 = false ∧ s.cfg.illegalAction = .halt) := by
  decide

theorem witness_PseudoOpcodes :
    (let s := { beforeLda with cfg := withPseudo [slo] }
     definedMicro .und07 = none ∧ s.cfg.pseudoOpcodes.contains (encodeOpcode .und07) = true ∧
       s.cfg.pseudoTable.find? (fun e => e.op == encodeOpcode .und07) = some slo ∧ s.cfg.wellFormed = true) ∧
    (let s := { beforeLda with cfg := withPseudo [] }
     s.cfg.pseudoOpcodes.contains (encodeOpcode .und07) = true ∧
       s.cfg.pseudoTable.find? (fun e => e.op == encodeOpcode .und07) = none) :=
  ⟨⟨rfl, by decide, by decide, by decide +kernel⟩, by decide, by decide⟩

/-- What the entry above does, by hand: 0xC1 shifted is 0x82 with C set; A is 0x01 or 0x82. -/
theorem test_pseudo_entry : goes
    (at_ (withPseudo [slo]) 0x0200#16 ⟨0x01#8, 0#8, 0#8, 0xFF#8, fl []⟩
      [(0x0010, 0xC1#8), (0x0200, 0x07#8), (0x0201, 0x10#8)])
    ⟨0x83#8, 0#8, 0#8, 0xFF#8, fl ['N', 'C']⟩ 0x0202#16 [(0x0010, 0x82#8), (0x0200, 0x07#8), (0x0201, 0x10#8)]
    [rd 0x0200#16 0x07#8, rd 0x0201#16 0x10#8, rd 0x0010#16 0xC1#8, wr 0x0010#16 0xC1#8, wr 0x0010#16 0x82#8] = true := by
  decide +kernel

theorem witness_HaltedCore : (haltedAt allRam []).cfg.wellFormed = true ∧ (haltedAt allRam []).cpu.phase = .halted ∧
    (coreView (haltedAt allRam [])).cpu.pend.resetPending = false ∧
    (let s := { haltedAt allRam [] with sched := (withLine .reset).sched }
     s.cfg.wellFormed = true ∧ s.cpu.phase = .halted ∧ (coreView s).cpu.pend.resetPending = true) ∧
    (haltedAt allRam []).cfg.clockRates.core = 1 ∧ (haltedAt allRam []).cfg.clockRates.vtg = 1 := by
  decide +kernel

theorem witness_InterruptEntry : SeqKind.irq ≠ .reset ∧ SeqKind.nmi ≠ .reset := by decide

theorem witness_AdcBinary : (⟨0xFF#8, 0#8, 0#8, 0#8, fl ['C']⟩ : Regs).p.d = false := by decide

theorem witness_AdcDecimal :
    (let r : Regs := ⟨0x99#8, 0#8, 0#8, 0#8, fl ['D', 'C']⟩; r.p.d = true ∧ validBcd r.a = true) ∧
    validBcd 0x99#8 = true ∧ validBcd 0x00#8 = true := by decide

theorem witness_SbcFlagsAndBinary : (⟨0x00#8, 0#8, 0#8, 0#8, fl []⟩ : Regs).p.d = false := by decide

theorem witness_SbcDecimal :
    (let r : Regs := ⟨0x00#8, 0#8, 0#8, 0#8, fl ['D']⟩; r.p.d = true ∧ validBcd r.a = true) ∧ validBcd 0x99#8 = true := by
  decide

/-- The last address of the first entry of the map after reset. -/
theorem witness_UniqueOwner : Config.default.wellFormed = true ∧
    Config.default.addressMap[0]? = some ⟨0x0000, 0xFDFF, .ram⟩ ∧ 0 ≤ (0xFDFF#16).toNat ∧ (0xFDFF#16).toNat ≤ 0xFDFF := by
  decide +kernel

/-- Writable, read-only and unmapped, each at the ends of its range. -/
theorem witness_BusAccess :
    (let s := at_ (withRom []) 0#16 default []
     ramOwned s.cfg 0x0000#16 = true ∧ ramOwned s.cfg 0xBFFF#16 = true ∧
     memoryOwned s.cfg 0xC000#16 = true ∧ ramOwned s.cfg 0xC000#16 = false ∧ memoryOwned s.cfg 0xFFFF#16 = true) ∧
    mapEntry withHole 0x8000#16 = none ∧ mapEntry withHole 0x8FFF#16 = none ∧ mapEntry withHole 0x9000#16 ≠ none := by
  decide +kernel

/-- Two writable banks at 0x8000 to 0xBFFF, their bank register at 0xFE30, and a read-only region of two banks
at 0xC000 to 0xFDFF with a register at 0xFE31. -/
def banked : Config :=
  { allRam with
    addressMap := [⟨0x0000, 0x7FFF, .ram⟩, ⟨0x8000, 0xBFFF, .bank 0⟩, ⟨0xC000, 0xFDFF, .bank 1⟩,
      ⟨0xFE30, 0xFE30, .bankSelect 0⟩, ⟨0xFE31, 0xFE31, .bankSelect 1⟩, ⟨0xFF00, 0xFFFF, .ram⟩]
    banks := [⟨2, true, [], true, 0xF0#8, 0#8⟩, ⟨2, false, [[(0xC000, 1#8)], [(0xC000, 2#8)]], false, 0#8, 0#8⟩] }

theorem witness_BankedRegions :
    (let s := at_ banked 0#16 default []
     let c : BankCfg := ⟨2, true, [], true, 0xF0#8, 0#8⟩
     let d : BankCfg := ⟨2, false, [[(0xC000, 1#8)], [(0xC000, 2#8)]], false, 0#8, 0#8⟩
     let b : Bank := ⟨0#8, [[], []]⟩
     mapEntry s.cfg 0x8000#16 = some ⟨0x8000, 0xBFFF, .bank 0⟩ ∧ bankAt s.cfg s.banks 0 = some (c, b) ∧
     c.writable = true ∧ bankNumber c b < b.content.length ∧
     mapEntry s.cfg 0xFDFF#16 = some ⟨0xC000, 0xFDFF, .bank 1⟩ ∧ bankAt s.cfg s.banks 1 = some (d, b) ∧
     d.writable = false ∧ mapEntry s.cfg 0xFE30#16 = some ⟨0xFE30, 0xFE30, .bankSelect 0⟩) := by
  decide +kernel

/-- What is written into bank 0 is not seen while bank 1 is selected, and is there again afterwards. -/
theorem test_banked_region :
    let s := at_ banked 0#16 default []
    let t := busWrite 0x9000#16 0x5A#8 s
    let u := busWrite 0xFE30#16 0xF1#8 t
    let w := busWrite 0xFE31#16 0x01#8 (busWrite 0xC000#16 0x77#8 u)
    ((busRead 0x9000#16 t).1, (busRead 0x9000#16 u).1, (busRead 0xFE30#16 u).1,
      (busRead 0x9000#16 (busWrite 0xFE30#16 0x00#8 u)).1) = (0x5A#8, 0x00#8, 0x01#8, 0x5A#8) ∧
    ((busRead 0xC000#16 u).1, (busRead 0xC000#16 w).1, (busRead 0xFE31#16 w).1) = (0x01#8, 0x02#8, 0xA5#8) := by
  decide +kernel

theorem witness_VideoWritesDeferred :
    (VtgCfg.default.free = false ∧ VtgCfg.default.ports[0]? = some .index ∧ VtgCfg.default.ports[1]? = some .data ∧
      VtgCfg.default.regs[13]? = some (.byteOf .startAddr 8)) ∧
    (let c : VtgCfg := { VtgCfg.default with ports := [.direct (.byteOf .hTotal 0)] }
     c.free = false ∧ c.ports[0]? = some (.direct (.byteOf .hTotal 0))) ∧
    ({ VtgCfg.default with free := true } : VtgCfg).free = true ∧
    (Vtg.powerOn vtg61).charPhase + 1 < vtg61.ticksPerChar ∧
    (let g := vtgTicks vtg61 1 (.powerOn vtg61)
     vtg61.ticksPerChar ≤ g.charPhase + 1 ∧ g.hcount + 1 < (g.pending.foldl vtgApply g.reg).hTotal) ∧
    (let g := vtgTicks vtg61 7 (.powerOn vtg61)
     vtg61.ticksPerChar ≤ g.charPhase + 1 ∧ (g.pending.foldl vtgApply g.reg).hTotal ≤ g.hcount + 1) := by
  decide +kernel

theorem witness_VideoFrame :
    (let g := vtgTicks vtg61 24 (.powerOn vtg61)
     0 < vtg61.ticksPerChar ∧ 1 ≤ g.reg.hTotal ∧ 1 ≤ g.reg.vTotal ∧ g.charPhase = 0 ∧ g.hcount = 0 ∧ g.vcount = 0 ∧
       g.pending = [] ∧ vtgOutputs g = g) := by
  decide +kernel

/-- Outside the active window no fetch; inside it one, at an address of RAM and at that of a bank register. -/
theorem witness_MixerReadsMemoryOnly :
    let shown (s : State) (ma : Nat) : State := { s with vtg := { s.vtg with displayEnable := true, charPhase := 0, ma := ma } }
    let ram := shown beforeLda 0x0200
    let register := shown (at_ banked 0#16 default []) 0xFE30
    beforeLda.vtg.displayEnable = false ∧ (mixerUpdate beforeLda).bus = beforeLda.bus ∧
      ram.vtg.displayEnable = true ∧ (mixerUpdate ram).bus = ⟨0x0200#16, false, 0xA9#8, .mixer⟩ :: ram.bus ∧
      register.vtg.displayEnable = true ∧
      (mixerUpdate register).bus = ⟨0xFE30#16, false, register.cfg.openBus, .mixer⟩ :: register.bus := by
  decide +kernel

theorem witness_TeletextRowStart : ttxFirstLine .nonInterlaced 0 false = true ∧ ttxFirstLine .interlaced 1 true = true ∧
    ttxFirstLine .nonInterlaced 1 true = false := by decide

theorem witness_LinesRouted : Config.default.ifChips[1]? = some ⟨.serial .default, .irq⟩ := rfl

theorem witness_EventQueues :
    (let s := at_ { Config.default with eventQueueDepth := 2 } 0#16 default []
     0 < s.cfg.eventQueueDepth ∧ s.ifChips[0]? = some ⟨parallel, [], none⟩ ∧ ([] : List IfEvent).length ≤ 2) ∧
    (let chip : IfChip := ⟨parallel, [.strobe .a, .strobe .b], none⟩
     let s := { at_ { Config.default with eventQueueDepth := 2 } 0#16 default [] with ifChips := [chip] }
     s.ifChips[0]? = some chip ∧ chip.queue.length ≤ s.cfg.eventQueueDepth ∧
       chip.queue.length = s.cfg.eventQueueDepth ∧ chip.queue = .strobe .a :: [.strobe .b]) ∧
    (IfChip.powerOn ⟨.parallel .default, .irq⟩).queue = [] := by
  decide +kernel

theorem witness_SerialTransmit : SerLayout.default.readOnly.lookup .txData = none := by decide

theorem witness_FloppyRefusals :
    (let f := fdcCommand toy (toyDrives 0x338) 0x01#8 (fdcAt 1#8 0#8 0#8); fdcBusy f.state = true) ∧
    (let f := fdcAt 3#8 2#8 0#8
     fdcBusy f.state = false ∧ f.cmd = none ∧ toy.fdc.layout.codes.lookup 0x77#8 = none ∧
     toy.fdc.layout.codes.lookup 0x01#8 = some .seek ∧ driveReady (toyDrives 0x338) f.drive.toNat = true ∧
     tracksOf toy.disk f.drive.toNat ≤ f.track.toNat) ∧
    (let f := fdcAt 2#8 2#8 0#8
     toy.fdc.layout.codes.lookup 0x02#8 = some .read ∧ fdcBusy f.state = false ∧ f.cmd = none ∧
     driveReady (toyDrives 0x338) f.drive.toNat = true ∧ sectorsOf toy.disk f.drive.toNat ≤ f.sector.toNat) ∧
    (let f := fdcAt 0#8 0#8 1#8
     fdcBusy f.state = false ∧ f.cmd = none ∧ driveReady (toyDrives 0x338) f.drive.toNat = false) := by
  decide +kernel

theorem witness_FloppyRead :
    (let f := fdcAt 1#8 1#8 0#8
     0 < toy.fdc.byteTicks ∧ fdcBusy f.state = false ∧ toy.fdc.layout.codes.lookup 0x02#8 = some .read ∧
     readSector toy.disk (toyDrives 0x338) f.drive.toNat f.track.toNat f.sector.toNat = some (dead 0x338) ∧
     (dead 0x338).payload.length = toy.disk.bytesPerSector ∧ crcOf toy.disk (dead 0x338).payload = (dead 0x338).crc) := by
  decide +kernel

theorem witness_DiskStore : drivesInv toy.disk (toyDrives 0x338) ∧
    (writeSector toy.disk (toyDrives 0x338) 0 2 1 blank.payload 0xBEEF).2 = true ∧
    (writeSector toy.disk (toyDrives 0x338) 0 3 0 blank.payload 0).2 = false ∧
    (writeSector toy.disk (toyDrives 0x338) 1 0 0 blank.payload 0).2 = false := by
  unfold drivesInv
  decide +kernel

end Sys2Proof.Tests
end

section
/-! SUPPORT. A step is a whole number of ticks (obligation O7): the ticks in which the core idles, the turn of the
core that follows them, the rows of a pattern or sequence turn by turn, and T1 with its decode. -/

namespace Sys2Proof.Machine

/-! ## Runs of ticks -/

/-- Some positive number of ticks leads from one state to another (rules R13, R70). -/
def LeadsTo (s t : State) : Prop :=
  ∃ n, 0 < n ∧ ticks n s = .next t

theorem ticks_succ_of_tick {s t : State} (h : tick s = .next t) (n : Nat) : ticks (n + 1) s = ticks n t := by
  simp only [ticks, h]

theorem ticks_add {m : Nat} {s t : State} (h : ticks m s = .next t) (n : Nat) : ticks (m + n) s = ticks n t := by
  induction m generalizing s with
  | zero => cases h; rw [Nat.zero_add]
  | succ m ih =>
    cases hs : tick s with
    | next v => rw [Nat.succ_add, ticks_succ_of_tick hs, ih (ticks_succ_of_tick hs m ▸ h)]
    | fault e => simp [ticks, hs] at h
    | refused e => simp [ticks, hs] at h

theorem LeadsTo.trans {s t v : State} (h : LeadsTo s t) (h' : LeadsTo t v) : LeadsTo s v := by
  obtain ⟨m, hm, hst⟩ := h
  obtain ⟨n, -, htv⟩ := h'
  exact ⟨m + n, by omega, (ticks_add hst n).trans htv⟩

/-- What a run of ticks answers, the ticks of rule R13 answer on the configuration and the script of its start, but
for the script, which they leave. -/
theorem ticksOn_of_ticks {n : Nat} {s t : State} (h : ticks n s = .next t) :
    ∃ u, ticksOn s.cfg (scriptInputs n s.input) s = .next u ∧ t = u.withInput (s.input.drop n) := by
  rw [ticks_ticksOn] at h
  cases hu : ticksOn s.cfg (scriptInputs n s.input) s with
  | next u => rw [hu] at h; cases h; exact ⟨u, rfl, rfl⟩
  | fault e => rw [hu] at h; cases h
  | refused e => rw [hu] at h; cases h

/-! ## One tick, and the turn of the core -/

/-- A tick of a well-formed machine is its boundary, the core's part and the other chips' (rule R70). -/
theorem tick_of_coreTurn {act : State → State} {s : State} (hwf : s.cfg.wellFormed = true)
    (h : coreTurn (beforeCore (boundary s)) = .next (act (beforeCore (boundary s)))) :
    tick s = .next (tickWith act s) := by
  have hs : coreTurn (beforeCore (boundaryOn s.nextInput { s.dropInput with cfg := s.cfg })) =
      .next (act (beforeCore (boundary s))) := h
  simp only [tick, tickOn, hwf, if_true, hs]
  rfl

/-- A tick in which the core idles (rule R71). -/
theorem tick_idle {s : State} (hwf : s.cfg.wellFormed = true)
    (h : acts s.cfg.clockRates.core (s.sched.tickCount + 1) = false) : tick s = .next (tickWith (fun t => t) s) :=
  tick_of_coreTurn hwf (by simp [coreTurn, h])

/-- A well-formed configuration gives the core a divider of at least 1 (rule R71). -/
theorem coreDivider_pos {c : Config} (hwf : c.wellFormed = true) : 0 < c.clockRates.core := by
  simp only [Config.wellFormed, Config.scheduleLegal, Bool.and_eq_true, List.cons_append, List.all_cons,
    decide_eq_true_eq] at hwf
  simp_all

/-- The core idles in each tick before its next turn (rule R71). -/
theorem acts_before_turn {c : Config} {n j : Nat} (hj : j < coreIdle c n) :
    acts c.clockRates.core (n + j + 1) = false := by
  have hlt : n % c.clockRates.core + (j + 1) < c.clockRates.core := by unfold coreIdle at hj; omega
  have hmod : (n + j + 1) % c.clockRates.core = n % c.clockRates.core + (j + 1) := by
    rw [Nat.add_assoc, ← Nat.mod_add_mod, Nat.mod_eq_of_lt hlt]
  simp [acts, hmod]

/-- The core acts in the tick after those in which it idles (rule R71). -/
theorem acts_nextTurn {c : Config} (hc : 0 < c.clockRates.core) (n : Nat) :
    acts c.clockRates.core (nextTurn c n) = true := by
  have hlt := Nat.mod_lt n hc
  have hsum : n % c.clockRates.core + (coreIdle c n + 1) = c.clockRates.core := by unfold coreIdle; omega
  have hmod : nextTurn c n % c.clockRates.core = 0 := by
    rw [nextTurn, Nat.add_assoc, ← Nat.mod_add_mod, hsum, Nat.mod_self]
  simp [acts, hmod]

theorem ticks_idle {s : State} (hwf : s.cfg.wellFormed = true) {n : Nat}
    (h : ∀ j < n, acts s.cfg.clockRates.core (s.sched.tickCount + j + 1) = false) :
    ticks n s = .next (idleTicks n s) := by
  induction n generalizing s with
  | zero => rfl
  | succ n ih =>
    rw [ticks_succ_of_tick (tick_idle hwf (h 0 n.succ_pos)), idleTicks]
    have hcfg : (tickWith (fun t => t) s).cfg = s.cfg := by simp [tickWith]
    have htick : (tickWith (fun t => t) s).sched.tickCount = s.sched.tickCount + 1 := by simp [tickWith]
    refine ih (hcfg ▸ hwf) fun j hj => ?_
    rw [hcfg, htick, Nat.add_right_comm s.sched.tickCount 1 j]
    exact h (j + 1) (by omega)

/-- The ticks up to and with the one in which the core makes its next update (rules R70, R71, R420). -/
theorem leadsTo_turnWith {act : State → State} {s : State} (hwf : s.cfg.wellFormed = true)
    (h : coreUpdate (coreView s) = .next (act (coreView s))) : LeadsTo s (turnWith act s) := by
  have hc := coreDivider_pos hwf
  have hidle : ticks (coreIdle s.cfg s.sched.tickCount) s = .next (turnStart s) :=
    ticks_idle hwf fun _ hj => acts_before_turn hj
  have hturn : coreTurn (coreView s) = .next (act (coreView s)) := by
    simpa [coreTurn, acts_nextTurn hc] using h
  have hact : tick (turnStart s) = .next (turnWith act s) := tick_of_coreTurn (by simpa using hwf) hturn
  exact ⟨_, Nat.succ_pos _, (ticks_add hidle 1).trans (ticks_succ_of_tick hact 0)⟩

/-! ## The rows of a pattern or sequence, turn by turn -/

/-- Running rows is a run of ticks, if `At n rows s` says that the core stands in `s` before row `n`, of which `rows`
are that row and what follows: then the row's turn is a run of ticks, and the core stands before the next row unless
the row has ended the pattern (rule R132). -/
theorem leadsTo_runCycles {m : Micro} {mk : Nat → Phase} {At : Nat → List Cycle → State → Prop}
    (row : ∀ {n c rest s}, At n (c :: rest) s → LeadsTo s (turnWith (cycleAct m (phaseAfter mk n rest) c) s))
    (next : ∀ {n c rest s}, At n (c :: rest) s →
      (turnWith (cycleAct m (phaseAfter mk n rest) c) s).cpu.phase ≠ .fetch →
        At (n + 1) rest (turnWith (cycleAct m (phaseAfter mk n rest) c) s))
    {n : Nat} {c : Cycle} {rest : List Cycle} {s : State} (h : At n (c :: rest) s) :
    LeadsTo s (runCycles m mk n (c :: rest) s) := by
  induction rest generalizing n c s with
  | nil => simpa [runCycles] using row h
  | cons d rest ih =>
    rw [runCycles]
    split
    · exact row h
    · next hphase => exact (row h).trans (ih (next h hphase))

/-- The core after a row's turn, unless the row has ended the pattern: the effect of the row, and the phase of the
next row, which there is (rule R132). -/
theorem turn_cycleAct_cpu {m : Micro} {mk : Nat → Phase} {n : Nat} {c : Cycle} {rest : List Cycle} {s : State}
    (h : (turnWith (cycleAct m (phaseAfter mk n rest) c) s).cpu.phase ≠ .fetch) :
    ∃ b, (turnWith (cycleAct m (phaseAfter mk n rest) c) s).cpu =
      { (cycleEffect m c b (routed s)).1 with phase := mk (n + 1) } := by
  obtain ⟨b, -, hcpu, -⟩ := turn_row m (phaseAfter mk n rest) c s
  refine ⟨b, hcpu.trans ?_⟩
  rw [hcpu, cycleCommit_phase] at h
  have hflag : (cycleEffect m c b (coreView s).cpu).2 = false := by
    by_contra hne
    simp [hne] at h
  have hnext : phaseAfter mk n rest = mk (n + 1) := by
    simp only [hflag, phaseAfter] at h ⊢
    split <;> simp_all
  simp [cycleCommit, routed, hflag, hnext]

@[simp] theorem turn_cycleAct_cfg (m : Micro) (next : Phase) (c : Cycle) (s : State) :
    (turnWith (cycleAct m next c) s).cfg = s.cfg := by
  simp [turnWith_coreView]

/-! ## An instruction from one of its ticks -/

/-- No row of a pattern or sequence changes `IR` (rules R32, R131). -/
@[simp] theorem cycleEffect_ir (m : Micro) (c : Cycle) (b : Byte) (u : Cpu) :
    (cycleEffect m c b u).1.latch.ir = u.latch.ir := by
  cases c with
  | readOrFix => simp only [cycleEffect]; split <;> rfl
  | branchTake => simp only [cycleEffect, Cpu.branch]; split <;> rfl
  | enter k => cases k <;> rfl
  | _ => rfl

/-- The core stands before row `n` of the pattern of the opcode in `IR` (rules R131, R132). -/
def AtPatternRow (m : Micro) (n : Nat) (rows : List Cycle) (s : State) : Prop :=
  s.cfg.wellFormed = true ∧ s.cpu.phase = .executeCycle n ∧ afterFetch s.cfg s.cpu.latch.ir = some m ∧
    patternRows m n = rows

theorem patternRows_succ {m : Micro} {n : Nat} {c : Cycle} {rest : List Cycle}
    (h : patternRows m n = c :: rest) : patternRows m (n + 1) = rest := by
  unfold patternRows at h ⊢
  split at h
  · cases h
  · next hn =>
    rw [if_neg (by omega), show n + 1 - 2 = n - 2 + 1 by omega, ← List.tail_drop, h, List.tail_cons]

theorem AtPatternRow.leadsTo {m : Micro} {n : Nat} {c : Cycle} {rest : List Cycle} {s : State}
    (h : AtPatternRow m n (c :: rest) s) : LeadsTo s (runCycles m .executeCycle n (c :: rest) s) := by
  refine leadsTo_runCycles (At := AtPatternRow m) ?_ ?_ h
  · rintro n c rest s ⟨hwf, hphase, hm, hrows⟩
    exact leadsTo_turnWith hwf (by simp [coreUpdate, hphase, hm, hrows, rowTick])
  · rintro n c rest s ⟨hwf, -, hm, hrows⟩ hne
    obtain ⟨b, hcpu⟩ := turn_cycleAct_cpu hne
    refine ⟨by simpa using hwf, by rw [hcpu], ?_, patternRows_succ hrows⟩
    rw [hcpu, turn_cycleAct_cfg]
    simpa using hm

/-! ## An interrupt sequence from one of its ticks -/

/-- Only tick I1 changes the kind of the sequence (rule R425). -/
theorem cycleEffect_seqKind {c : Cycle} (h : c.isEntry = false) (m : Micro) (b : Byte) (u : Cpu) :
    (cycleEffect m c b u).1.seqKind = u.seqKind := by
  cases c with
  | readOrFix => simp only [cycleEffect]; split <;> rfl
  | branchTake => simp only [cycleEffect, Cpu.branch]; split <;> rfl
  | enter k => cases h
  | _ => rfl

theorem cycleEffect_enter_seqKind (m : Micro) (k : SeqKind) (b : Byte) (u : Cpu) :
    (cycleEffect m (.enter k) b u).1.seqKind = k := by
  cases k <;> rfl

theorem mem_sequencePushes_not_entry {c : Config} {k : SeqKind} {x : Cycle} (h : x ∈ sequencePushes c k) :
    x.isEntry = false := by
  unfold sequencePushes at h
  split at h <;> fin_cases h <;> rfl

/-- Tick I1 of a sequence enters it, and no other tick of it enters one (rule R425). -/
theorem sequenceRows_head {c : Config} {k : SeqKind} {n : Nat} {x : Cycle} {rest : List Cycle}
    (h : sequenceRows c k n = x :: rest) : if n = 1 then x = .enter k else x.isEntry = false := by
  match n with
  | 0 => cases h
  | 1 => cases h; rfl
  | n + 2 =>
    have hx : x ∈ .discardPc :: sequencePushes c k ++ [.vectorLow k, .vectorHigh k] :=
      List.mem_of_mem_drop (i := n) (by
        change _ ∈ (sequenceRows c k (n + 2))
        simp [h])
    rw [if_neg (by omega)]
    simp only [List.cons_append, List.mem_cons, List.mem_append, List.not_mem_nil, or_false] at hx
    obtain rfl | hx | rfl | rfl := hx
    · rfl
    · exact mem_sequencePushes_not_entry hx
    · rfl
    · rfl

theorem sequenceRows_succ {c : Config} {k : SeqKind} {n : Nat} {x : Cycle} {rest : List Cycle}
    (h : sequenceRows c k n = x :: rest) : sequenceRows c k (n + 1) = rest := by
  match n with
  | 0 => cases h
  | n + 1 => exact List.tail_drop.symm.trans (congrArg List.tail h)

/-- The core's next update is tick `n` of a sequence; from the second on, the kind stands in the core (rules R420,
R425). -/
def AtSequenceRow (k : SeqKind) (n : Nat) (rows : List Cycle) (s : State) : Prop :=
  s.cfg.wellFormed = true ∧ coreUpdate (coreView s) = sequenceTick k n (coreView s) ∧ sequenceRows s.cfg k n = rows ∧
    (n = 1 ∨ s.cpu.seqKind = k)

theorem AtSequenceRow.leadsTo {k : SeqKind} {n : Nat} {c : Cycle} {rest : List Cycle} {s : State}
    (h : AtSequenceRow k n (c :: rest) s) :
    LeadsTo s (runCycles (.nothing []) .interruptSequence n (c :: rest) s) := by
  refine leadsTo_runCycles (At := AtSequenceRow k) ?_ ?_ h
  · rintro n c rest s ⟨hwf, hupdate, hrows, -⟩
    exact leadsTo_turnWith hwf (by simp [hupdate, sequenceTick, hrows, rowTick])
  · rintro n c rest s ⟨hwf, -, hrows, hkind⟩ hne
    obtain ⟨b, hcpu⟩ := turn_cycleAct_cpu hne
    have hseq : (turnWith (cycleAct (.nothing []) (phaseAfter .interruptSequence n rest) c) s).cpu.seqKind = k := by
      have hhead := sequenceRows_head hrows
      rw [hcpu]
      split at hhead
      · subst hhead; exact cycleEffect_enter_seqKind _ k b _
      · next hn => exact (cycleEffect_seqKind hhead _ b _).trans (by simpa using hkind.resolve_left hn)
    refine ⟨by simpa using hwf, ?_, by simpa using sequenceRows_succ hrows, .inr hseq⟩
    have hphase := congrArg Cpu.phase hcpu
    simp only [coreUpdate, coreView_cpu_phase, hphase, coreView_cpu_seqKind, hseq]

/-- An interrupt taken at a boundary, or the RESET of a halted core, runs its whole sequence (rules R425, R445). -/
theorem leadsTo_takeInterrupt {k : SeqKind} {s : State} (hwf : s.cfg.wellFormed = true)
    (h : coreUpdate (coreView s) = sequenceTick k 1 (coreView s)) : LeadsTo s (takeInterrupt k s) :=
  AtSequenceRow.leadsTo (k := k) (n := 1) ⟨hwf, h, rfl, .inl rfl⟩

/-! ## T1, and the instruction that decode finds -/

theorem fetchTick_pattern {m : Micro} {s : State} (h : classify s.cfg (fetchedByte s) = .pattern m) :
    fetchTick (coreView s) = .next (fetchWith (beginPattern m) (coreView s)) := by
  rw [← coreView_cfg] at h
  simp only [fetchTick]
  rw [show (busRead (coreView s).cpu.pc (coreView s)).1 = fetchedByte s from rfl, h]

theorem fetchTick_illegal {s : State} (h : classify s.cfg (fetchedByte s) = .illegal) :
    fetchTick (coreView s) = .next (fetchWith (raiseIllegal s.cfg.illegalAction (fetchedByte s)) (coreView s)) := by
  rw [← coreView_cfg] at h
  simp only [fetchTick]
  rw [show (busRead (coreView s).cpu.pc (coreView s)).1 = fetchedByte s from rfl, h, coreView_cfg]

/-- What an instruction whose opcode byte is `op` does from its boundary, by the class that decode gives the byte. -/
def runClass (op : Byte) (s : State) : OpClass → Result
  | .pattern m => runInstr m s
  | .illegal => runIllegal op s
  | .missing => .refused (.pseudoWithoutEntry op)

theorem runUndefined_eq (op : Byte) (s : State) : runUndefined op s = runClass op s (undefinedClass s.cfg op) := by
  unfold runUndefined
  cases undefinedClass s.cfg op <;> rfl

theorem exec_eq (i : Instr) (s : State) :
    exec i s = (definedMicro i).elim (runUndefined (encodeOpcode i) s) fun m => runInstr m s := by
  cases i <;> rfl

theorem encodeOpcode_decodeOpcode (b : Byte) : encodeOpcode (decodeOpcode b) = b := by
  revert b
  decide

/-- The meaning of the instruction that decode finds is what the class of its opcode byte says (rules R103, R130,
R300). -/
theorem exec_decodeOpcode (op : Byte) (s : State) :
    exec (decodeOpcode op) s = runClass op s (classify s.cfg op) := by
  rw [exec_eq, encodeOpcode_decodeOpcode, classify]
  cases definedMicro (decodeOpcode op) with
  | none => exact runUndefined_eq op s
  | some m => rfl

/-- An instruction from its boundary: T1, then the rows of its pattern (rules R131, R132). -/
theorem leadsTo_runMicro {m : Micro} {s : State} (hwf : s.cfg.wellFormed = true)
    (hclass : classify s.cfg (fetchedByte s) = .pattern m) (h : coreUpdate (coreView s) = fetchTick (coreView s)) :
    LeadsTo s (runMicro m s) := by
  have hT1 : LeadsTo s (turnWith (fetchWith (beginPattern m)) s) :=
    leadsTo_turnWith hwf (h.trans (fetchTick_pattern hclass))
  obtain ⟨b, hcpu, rfl, -, -, -, hcfg⟩ := fetch_row (beginPattern m) s
  rw [runMicro]
  cases hrows : m.cycles with
  | nil => exact hT1
  | cons c rest =>
    refine hT1.trans (AtPatternRow.leadsTo ⟨hcfg ▸ hwf, ?_, ?_, by simpa [patternRows] using hrows⟩)
    · rw [hcpu]; simp [beginPattern, phaseAfter, hrows]
    · rw [hcpu, hcfg]; simp [beginPattern, afterFetch, hclass]

theorem runIllegal_noOp {op : Byte} {s : State} (h : s.cfg.illegalAction = .noOp) :
    runIllegal op s = .next (runCycles (.nothing []) .executeCycle 2 illegalCycles
      (turnWith (fetchWith (raiseIllegal .noOp op)) s)) := by
  simp only [runIllegal, h]

theorem runIllegal_halt {op : Byte} {s : State} (h : s.cfg.illegalAction = .halt) :
    runIllegal op s = .next (turnWith (fetchWith (raiseIllegal .halt op)) s) := by
  simp only [runIllegal, h]

/-- A run does not look at the rows that its pattern lists, only at those it is given and at the operations. -/
theorem runCycles_nothing (cs : List Cycle) (mk : Nat → Phase) (n : Nat) (rows : List Cycle) (s : State) :
    runCycles (.nothing cs) mk n rows s = runCycles (.nothing []) mk n rows s := by
  induction rows generalizing n s with
  | nil => rfl
  | cons c rest ih =>
    have hact : ∀ next, cycleAct (.nothing cs) next c = cycleAct (.nothing []) next c := fun _ => rfl
    simp only [runCycles, hact, ih]

/-- An illegal opcode from its boundary: T1, and under `NoOp` the tick after it (rules R304, R305). -/
theorem leadsTo_runIllegal {s t : State} (hwf : s.cfg.wellFormed = true)
    (hclass : classify s.cfg (fetchedByte s) = .illegal) (h : coreUpdate (coreView s) = fetchTick (coreView s))
    (ht : runIllegal (fetchedByte s) s = .next t) : LeadsTo s t := by
  have hT1 : LeadsTo s (turnWith (fetchWith (raiseIllegal s.cfg.illegalAction (fetchedByte s))) s) :=
    leadsTo_turnWith hwf (h.trans (fetchTick_illegal hclass))
  cases haction : s.cfg.illegalAction with
  | halt =>
    rw [runIllegal_halt haction, Host.Outcome.next.injEq] at ht
    rwa [haction, ht] at hT1
  | noOp =>
    rw [runIllegal_noOp haction, Host.Outcome.next.injEq] at ht
    rw [haction] at hT1
    obtain ⟨b, hcpu, hb, -, -, -, hcfg⟩ := fetch_row (raiseIllegal .noOp (fetchedByte s)) s
    have hphase := congrArg Cpu.phase hcpu
    have hir : (turnWith (fetchWith (raiseIllegal .noOp (fetchedByte s))) s).cpu.latch.ir = fetchedByte s := by
      rw [hcpu, hb]; rfl
    have hm : afterFetch s.cfg (fetchedByte s) = some (.nothing illegalCycles) := by simp only [afterFetch, hclass]
    rw [← ht, ← runCycles_nothing illegalCycles]
    exact hT1.trans (AtPatternRow.leadsTo ⟨hcfg ▸ hwf, hphase, by rw [hcfg, hir, hm], rfl⟩)

/-! ## A step, phase by phase -/

theorem finishRows_next {m : Micro} {mk : Nat → Phase} {n : Nat} {rows : List Cycle} {s t : State}
    (h : finishRows m mk n rows s = .next t) : ∃ c rest, rows = c :: rest ∧ t = runCycles m mk n rows s := by
  cases rows with
  | nil => cases h
  | cons c rest => cases h; exact ⟨c, rest, rfl, rfl⟩

theorem leadsTo_stepBoundary {s t : State} (hwf : s.cfg.wellFormed = true) (hphase : s.cpu.phase = .fetch)
    (h : stepBoundary s = .next t) : LeadsTo s t := by
  unfold stepBoundary at h
  split at h
  · next k hpoll =>
    cases h
    exact leadsTo_takeInterrupt hwf (by simp [coreUpdate, hphase, hpoll])
  · next hpoll =>
    have hupdate : coreUpdate (coreView s) = fetchTick (coreView s) := by simp [coreUpdate, hphase, hpoll]
    rw [exec_decodeOpcode] at h
    cases hclass : classify s.cfg (fetchedByte s) with
    | pattern m => rw [hclass] at h; cases h; exact leadsTo_runMicro hwf hclass hupdate
    | illegal => rw [hclass] at h; exact leadsTo_runIllegal hwf hclass hupdate h
    | missing => rw [hclass] at h; cases h

theorem leadsTo_finishInstruction {n : Nat} {s t : State} (hwf : s.cfg.wellFormed = true)
    (hphase : s.cpu.phase = .executeCycle n) (h : finishInstruction n s = .next t) : LeadsTo s t := by
  unfold finishInstruction at h
  split at h
  · next m hm =>
    obtain ⟨c, rest, hrows, rfl⟩ := finishRows_next h
    rw [hrows]
    exact AtPatternRow.leadsTo ⟨hwf, hphase, hm, hrows⟩
  · cases h

theorem leadsTo_resumeSequence {k : Nat} {s t : State} (hwf : s.cfg.wellFormed = true)
    (hphase : s.cpu.phase = .interruptSequence k) (h : resumeSequence k s = .next t) : LeadsTo s t := by
  obtain ⟨c, rest, hrows, rfl⟩ := finishRows_next h
  rw [hrows]
  exact AtSequenceRow.leadsTo ⟨hwf, by simp [coreUpdate, hphase], hrows, .inr rfl⟩

/-- A halted core that finds no RESET: one tick, whether the core idles in it or finds itself halted (rules R71,
R305). -/
theorem tick_halted {s : State} (hwf : s.cfg.wellFormed = true) (hphase : s.cpu.phase = .halted)
    (hreset : (coreView s).cpu.pend.resetPending = false) : tick s = .next (tickWith (fun t => t) s) := by
  cases hacts : acts s.cfg.clockRates.core (s.sched.tickCount + 1) with
  | false => exact tick_idle hwf hacts
  | true =>
    have hidle : coreIdle s.cfg s.sched.tickCount = 0 := by
      by_contra hne
      have hno := acts_before_turn (c := s.cfg) (j := 0) (Nat.pos_of_ne_zero hne)
      simp [hacts] at hno
    have hview : coreView s = beforeCore (boundary s) := by simp [coreView, turnStart, hidle, idleTicks]
    have hturn : coreTurn (coreView s) = .next (coreView s) := by
      unfold coreTurn coreUpdate
      split <;> simp [hphase, hreset]
    exact tick_of_coreTurn hwf (hview ▸ hturn)

theorem leadsTo_runHalted {s t : State} (hwf : s.cfg.wellFormed = true) (hphase : s.cpu.phase = .halted)
    (h : runHalted s = .next t) : LeadsTo s t := by
  unfold runHalted at h
  split at h
  · next hreset =>
    cases h
    exact leadsTo_takeInterrupt hwf (by simp [coreUpdate, hphase, hreset])
  · next hreset =>
    cases h
    exact ⟨1, Nat.one_pos, ticks_succ_of_tick (tick_halted hwf hphase (by simpa using hreset)) 0⟩

/-- Whenever a step answers a next state, a positive number of ticks leads there. -/
theorem leadsTo_of_step {s t : State} (h : step s = .next t) : LeadsTo s t := by
  unfold step at h
  split at h
  · next hwf =>
    unfold stepRun at h
    split at h
    · next hphase => exact leadsTo_stepBoundary hwf hphase h
    · next n hphase => exact leadsTo_finishInstruction hwf hphase h
    · next k hphase => exact leadsTo_resumeSequence hwf hphase h
    · next hphase => exact leadsTo_runHalted hwf hphase h
  · cases h

/-- Settles O7: each part of a step is a run of ticks, the turns of its core row by row, and the ticks of a state are
those of rule R13 on its configuration and its script. -/
theorem stepIsTicks : Obligations.StepIsTicks := by
  intro s t h
  obtain ⟨n, hn, hticks⟩ := leadsTo_of_step h
  obtain ⟨u, hu, ht⟩ := ticksOn_of_ticks hticks
  exact ⟨n, u, hn, hticks, hu, ht⟩

end Sys2Proof.Machine
end

section
/-! SUPPORT. The machine at power-on (obligation O13): the Interface Chips by their register maps. -/

namespace Sys2Proof.Machine

/-! ## The Interface Chips at power-on -/

theorem powerOn_ifChips_getElem? {c : Config} {k : Nat} {i : IfChipCfg} (h : c.ifChips[k]? = some i) :
    (State.powerOn c).ifChips[k]? = some (.powerOn i) := by
  simp [State.powerOn, h]

theorem powerOn_ifChips_length (c : Config) : (State.powerOn c).ifChips.length = c.ifChips.length := by
  simp [State.powerOn]

/-- No chip holds an event at power-on (rules R359, R365). -/
theorem powerOn_ifChips_silent (c : Config) :
    ∀ chip ∈ (State.powerOn c).ifChips, chip.queue = [] ∧ chip.extLatch = none := by
  intro chip h
  obtain ⟨i, -, rfl⟩ := List.mem_map.mp h
  exact ⟨rfl, rfl⟩

/-- A parallel chip whose register map gives `CONTROL` no reset value requests no interrupt (rules R360, R365). -/
theorem ifIrq_parallel_powerOn {l : ParLayout} (h : l.resets.lookup .control = none) :
    ifIrq (.parallel (.powerOn l .a) (.powerOn l .b)) = false := by
  simp [ifIrq, PortState.powerOn, h]

/-- A serial chip whose register map gives `CONTROL` no reset value requests no interrupt (rules R360, R365). -/
theorem ifIrq_serial_powerOn {l : SerLayout} (h : l.resets.lookup .control = none) :
    ifIrq (.serial (.powerOn l)) = false := by
  simp [ifIrq, Serial.powerOn, h]

/-- Settles O13: each value stands in the definition of the power-on state; a register of an Interface Chip has its
map's reset value, or where the map gives it none the default that stands there. -/
theorem powerOnState : Obligations.PowerOnState := by
  rintro c s rfl
  refine ⟨rfl, rfl, rfl, rfl, rfl, rfl, rfl, rfl, rfl, rfl, rfl, rfl, rfl, rfl, rfl, rfl, powerOn_ifChips_length c,
    powerOn_ifChips_silent c, fun k l line h => ?parallel, fun k l line h => ?serial,
    rfl, rfl, rfl, rfl, rfl, rfl, rfl, rfl⟩
  case parallel =>
    refine ⟨_, _, _, powerOn_ifChips_getElem? h, rfl, rfl, rfl, fun hr => ?_, fun hr => ?_, fun hr => ?_,
      fun hr => ?_, fun hr => ?_, fun hr => ⟨?_, ?_, ifIrq_parallel_powerOn hr⟩, fun v => ⟨fun hr => ?_,
        fun hr => ?_, fun hr => ?_, fun hr => ?_, fun hr => ?_, fun hr => ?_⟩⟩
    all_goals simp [PortState.powerOn, hr]
  case serial =>
    refine ⟨_, _, powerOn_ifChips_getElem? h, rfl, rfl, fun hr => ?_, fun hr => ⟨?_, ?_,
      ifIrq_serial_powerOn hr⟩, fun v => ⟨fun hr => ?_, fun hr => ?_, fun hr => ?_, fun hr => ?_⟩⟩
    all_goals simp [Serial.powerOn, hr]

end Sys2Proof.Machine
end

section
/-! SUPPORT. A step ends at an instruction boundary or in a halted core, and time goes on (obligation O8): what the
core does in its part of a tick, the tick counter over a run of ticks, and the phase in which each part of a step
ends. -/

namespace Sys2Proof.Machine

/-! ## The core's part of a tick -/

theorem rowTick_next {m : Micro} {mk : Nat → Phase} {n : Nat} {rows : List Cycle} {s t : State}
    (h : rowTick m mk n rows s = .next t) :
    ∃ c rest, rows = c :: rest ∧ t = cycleAct m (phaseAfter mk n rest) c s := by
  cases rows with
  | nil => cases h
  | cons c rest => cases h; exact ⟨c, rest, rfl, rfl⟩

theorem fetchTick_next {s t : State} (h : fetchTick s = .next t) : ∃ finish, t = fetchWith finish s := by
  simp only [fetchTick] at h
  split at h
  · cases h; exact ⟨_, rfl⟩
  · cases h; exact ⟨_, rfl⟩
  · cases h

/-- What the core can do in its part of a tick: nothing, a row of a pattern or sequence, or T1. -/
inductive CoreMove (s : State) : State → Prop
  | none : CoreMove s s
  | row (m : Micro) (next : Phase) (c : Cycle) : CoreMove s (cycleAct m next c s)
  | fetch (finish : Cpu → Cpu) : CoreMove s (fetchWith finish s)

theorem CoreMove.of_rowTick {m : Micro} {mk : Nat → Phase} {n : Nat} {rows : List Cycle} {s t : State}
    (h : rowTick m mk n rows s = .next t) : CoreMove s t := by
  obtain ⟨c, rest, -, rfl⟩ := rowTick_next h
  exact .row m _ c

theorem CoreMove.of_coreUpdate {s t : State} (h : coreUpdate s = .next t) : CoreMove s t := by
  unfold coreUpdate at h
  split at h
  · split at h
    · exact .of_rowTick h
    · cases h; exact .none
  · split at h
    · exact .of_rowTick h
    · obtain ⟨finish, rfl⟩ := fetchTick_next h
      exact .fetch finish
  · split at h
    · exact .of_rowTick h
    · cases h
  · exact .of_rowTick h

theorem CoreMove.of_coreTurn {s t : State} (h : coreTurn s = .next t) : CoreMove s t := by
  unfold coreTurn at h
  split at h
  · exact .of_coreUpdate h
  · cases h; exact .none

/-! ## Time -/

@[simp] theorem cycleAct_tickCount (m : Micro) (next : Phase) (c : Cycle) (s : State) :
    (cycleAct m next c s).sched.tickCount = s.sched.tickCount := by
  unfold cycleAct
  split <;> simp [busRead, busWrite]

@[simp] theorem fetchWith_tickCount (finish : Cpu → Cpu) (s : State) :
    (fetchWith finish s).sched.tickCount = s.sched.tickCount := by
  simp [fetchWith, busRead]

/-- Only the boundary counts time (rules R35, R70). -/
theorem CoreMove.tickCount {s t : State} (h : CoreMove s t) : t.sched.tickCount = s.sched.tickCount := by
  cases h with
  | none => rfl
  | row m next c => exact cycleAct_tickCount m next c s
  | fetch finish => exact fetchWith_tickCount finish s

theorem tick_tickCount {s t : State} (h : tick s = .next t) : t.sched.tickCount = s.sched.tickCount + 1 := by
  unfold tick tickOn at h
  split at h
  · split at h
    · next u hu =>
      cases h
      simpa using (CoreMove.of_coreTurn hu).tickCount
    · cases h
    · cases h
  · cases h

theorem ticks_tickCount {n : Nat} {s t : State} (h : ticks n s = .next t) :
    t.sched.tickCount = s.sched.tickCount + n := by
  induction n generalizing s with
  | zero => cases h; rfl
  | succ n ih =>
    unfold ticks at h
    split at h
    · next v hv => rw [ih h, tick_tickCount hv]; omega
    · cases h
    · cases h

theorem LeadsTo.tickCount_lt {s t : State} (h : LeadsTo s t) : s.sched.tickCount < t.sched.tickCount := by
  obtain ⟨n, hn, hticks⟩ := h
  have := ticks_tickCount hticks
  omega

/-! ## The phase in which a step ends -/

theorem turn_last_phase (m : Micro) (c : Cycle) (s : State) :
    (turnWith (cycleAct m .fetch c) s).cpu.phase = .fetch := by
  obtain ⟨b, -, hcpu, -⟩ := turn_row m .fetch c s
  simp [hcpu]

/-- The last row of a pattern or sequence leaves the core at the boundary, and a row that ends it early does so too
(rule R132). -/
theorem runCycles_phase (m : Micro) (mk : Nat → Phase) (n : Nat) (c : Cycle) (rest : List Cycle) (s : State) :
    (runCycles m mk n (c :: rest) s).cpu.phase = .fetch := by
  induction rest generalizing n c s with
  | nil => simp [runCycles, phaseAfter, turn_last_phase]
  | cons d rest ih =>
    rw [runCycles]
    split
    · assumption
    · exact ih (n + 1) d _

theorem takeInterrupt_phase (k : SeqKind) (s : State) : (takeInterrupt k s).cpu.phase = .fetch :=
  runCycles_phase _ _ 1 (.enter k) _ s

/-- A pattern without rows ends with T1, any other with its last row (rules R131, R132). -/
theorem runMicro_phase (m : Micro) (s : State) : (runMicro m s).cpu.phase = .fetch := by
  rw [runMicro]
  cases hrows : m.cycles with
  | nil =>
    obtain ⟨b, hcpu, -⟩ := fetch_row (beginPattern m) s
    simp [hcpu, beginPattern, phaseAfter, hrows]
  | cons c rest => exact runCycles_phase m _ 2 c rest _

/-- An illegal opcode ends at the boundary under `NoOp`, and halts the core under `Halt` (rules R304, R305). -/
theorem atBoundary_runIllegal {op : Byte} {s t : State} (h : runIllegal op s = .next t) : atBoundary t := by
  cases haction : s.cfg.illegalAction with
  | noOp =>
    rw [runIllegal_noOp haction, illegalCycles, Host.Outcome.next.injEq] at h
    subst h
    exact .inl (runCycles_phase _ _ 2 .implied [] _)
  | halt =>
    rw [runIllegal_halt haction, Host.Outcome.next.injEq] at h
    subst h
    obtain ⟨b, hcpu, -⟩ := fetch_row (raiseIllegal .halt op) s
    exact .inr (by rw [hcpu]; rfl)

theorem atBoundary_stepBoundary {s t : State} (h : stepBoundary s = .next t) : atBoundary t := by
  unfold stepBoundary at h
  split at h
  · next k hpoll => cases h; exact .inl (takeInterrupt_phase k s)
  · rw [exec_decodeOpcode] at h
    cases hclass : classify s.cfg (fetchedByte s) with
    | pattern m => rw [hclass] at h; cases h; exact .inl (runMicro_phase m s)
    | illegal => rw [hclass] at h; exact atBoundary_runIllegal h
    | missing => rw [hclass] at h; cases h

theorem atBoundary_finishRows {m : Micro} {mk : Nat → Phase} {n : Nat} {rows : List Cycle} {s t : State}
    (h : finishRows m mk n rows s = .next t) : atBoundary t := by
  obtain ⟨c, rest, rfl, rfl⟩ := finishRows_next h
  exact .inl (runCycles_phase m mk n c rest s)

theorem atBoundary_finishInstruction {n : Nat} {s t : State} (h : finishInstruction n s = .next t) :
    atBoundary t := by
  unfold finishInstruction at h
  split at h
  · exact atBoundary_finishRows h
  · cases h

/-- A halted core stays halted, unless a RESET is remembered, whose sequence ends at a boundary (rules R305, R445). -/
theorem atBoundary_runHalted {s t : State} (hphase : s.cpu.phase = .halted) (h : runHalted s = .next t) :
    atBoundary t := by
  unfold runHalted at h
  split at h
  · cases h; exact .inl (takeInterrupt_phase .reset s)
  · cases h; exact .inr (by simpa [tickWith] using hphase)

theorem atBoundary_of_step {s t : State} (h : step s = .next t) : atBoundary t := by
  unfold step at h
  split at h
  · unfold stepRun at h
    split at h
    · exact atBoundary_stepBoundary h
    · exact atBoundary_finishInstruction h
    · exact atBoundary_finishRows h
    · next hphase => exact atBoundary_runHalted hphase h
  · cases h

/-- Settles O8: each part of a step runs its rows to the end or leaves the core halted, and a step is a positive number
of ticks, each of which counts one. -/
theorem stepEndsAtBoundary : Obligations.StepEndsAtBoundary :=
  fun _ _ h => ⟨atBoundary_of_step h, (leadsTo_of_step h).tickCount_lt⟩

end Sys2Proof.Machine
end

section
/-! SUPPORT. The machine at power-on meets the invariant of every step (obligation O10), one part of the invariant at
a time, for every well-formed configuration whose chips request no interrupt at power-on. -/

namespace Sys2Proof.Machine

theorem banksInv_powerOn (cs : List BankCfg) : banksInv (cs.map .powerOn) := by
  intro b hb m hm
  obtain ⟨c, -, rfl⟩ := List.mem_map.mp hb
  obtain rfl : m = [] := List.eq_of_mem_replicate hm
  rfl

theorem queuesInv_powerOn (c : Config) : queuesInv c (State.powerOn c).ifChips := by
  intro chip hchip
  obtain ⟨hqueue, -⟩ := powerOn_ifChips_silent c chip hchip
  simp [hqueue]

theorem vtgInv_powerOn {c : VtgCfg} (hwf : c.wellFormed = true) (hticks : 0 < c.ticksPerChar) :
    vtgInv c (.powerOn c) := by
  obtain ⟨hfits, -⟩ := Bool.and_eq_true_iff.mp hwf
  exact ⟨hticks, Nat.lt_of_lt_of_le Nat.one_pos (Nat.le_max_left _ _), Nat.two_pow_pos _, Nat.two_pow_pos _, hfits,
    fun u hu => absurd hu List.not_mem_nil⟩

theorem mixerInv_powerOn {c : Config} (hwf : c.mixer.wellFormed = true) : mixerInv c.mixer (.powerOn c) :=
  (Bool.and_eq_true_iff.mp hwf).2

theorem fdcInv_powerOn (c : Config) : fdcInv c (.powerOn c) :=
  ⟨rfl, List.length_replicate, Nat.two_pow_pos _⟩

theorem drivesInv_images {c : DiskCfg} (hwf : c.wellFormed = true) : drivesInv c c.images := by
  obtain ⟨hlength, hfits⟩ := Bool.and_eq_true_iff.mp hwf
  refine ⟨by simpa using hlength, fun p hp i hi => ?_⟩
  simpa [Option.mem_def.mp hi] using List.all_eq_true.mp hfits p hp

/-- Chips that request no interrupt drive no line (rules R360, R414). -/
theorem ifDrivers_eq_nil {c : Config} {k : Nat} {chips : List IfChip} (h : ∀ chip ∈ chips, ifIrq chip.unit = false) :
    ifDrivers c k chips = [] := by
  induction chips generalizing k with
  | nil => rfl
  | cons chip rest ih =>
    obtain ⟨hchip, hrest⟩ := List.forall_mem_cons.mp h
    simp [ifDrivers, hchip, ih hrest]

/-- Before tick 1 the environment alone drives a line, RESET (rule R51). -/
theorem drivenLines_powerOn {c : Config} (h : ∀ chip ∈ (State.powerOn c).ifChips, ifIrq chip.unit = false) :
    drivenLines (.powerOn c) = [(.reset, .environment)] := by
  have hfdc : fdcIrq c.fdc (.powerOn c) = false := by simp [fdcIrq, Fdc.powerOn]
  rw [drivenLines, ifDrivers_eq_nil h]
  simp [State.powerOn, hfdc]

/-- The machine of a well-formed configuration has the invariant at power-on, if no chip requests an interrupt there
(rules R50 to R52). -/
theorem stepInv_powerOn {c : Config} (hwf : c.wellFormed = true)
    (hirq : ∀ chip ∈ (State.powerOn c).ifChips, ifIrq chip.unit = false) : StepInv (.powerOn c) := by
  simp only [Config.wellFormed, Bool.and_eq_true] at hwf
  obtain ⟨⟨⟨⟨-, hcounts⟩, hvtg⟩, hmixer⟩, hdisk⟩ := hwf
  have hticks : 0 < c.vtg.ticksPerChar := by
    simp only [Config.countsLegal, Bool.and_eq_true, decide_eq_true_eq] at hcounts
    obtain ⟨⟨⟨hticks, -⟩, -⟩, -⟩ := hcounts
    exact hticks
  exact ⟨rfl, banksInv_powerOn c.banks, powerOn_ifChips_length c, queuesInv_powerOn c, vtgInv_powerOn hvtg hticks,
    mixerInv_powerOn hmixer, fdcInv_powerOn c, drivesInv_images hdisk, (drivenLines_powerOn hirq).symm⟩

theorem wellFormed_default : Config.default.wellFormed = true := by
  decide

/-- Settles O10: the default configuration is well formed, and its register maps give no `CONTROL` a reset value. -/
theorem resetInvariant : Obligations.ResetInvariant := by
  refine stepInv_powerOn wellFormed_default fun chip hchip => ?_
  change chip ∈ [IfChip.powerOn ⟨.parallel .default, .irq⟩, IfChip.powerOn ⟨.serial .default, .irq⟩] at hchip
  simp only [List.mem_cons, List.not_mem_nil, or_false] at hchip
  obtain rfl | rfl := hchip
  · exact ifIrq_parallel_powerOn rfl
  · exact ifIrq_serial_powerOn rfl

end Sys2Proof.Machine
end

section
/-! SUPPORT. The trace of a step replays memory (obligation O11): a turn of the core is one transaction, so a run of
rows is a list of them, and so is each part of a step in which the core acts. -/

namespace Sys2Proof.Machine

/-! ## Turns and rows -/

/-- The core's transactions from one state to another replay memory (rules R62, R78). -/
def MakesTrace (s t : State) : Prop :=
  ∃ tr, Makes s t tr

theorem MakesTrace.refl (s : State) : MakesTrace s s :=
  ⟨[], .refl s⟩

theorem MakesTrace.trans {s t v : State} (h : MakesTrace s t) (h' : MakesTrace t v) : MakesTrace s v := by
  obtain ⟨tr, hst⟩ := h
  obtain ⟨tr', htv⟩ := h'
  exact ⟨tr ++ tr', hst.trans htv⟩

/-- A turn of the core with a row is the one transaction of the row (rules R62, R132). -/
theorem makesTrace_turn_row (m : Micro) (next : Phase) (c : Cycle) (s : State) :
    MakesTrace s (turnWith (cycleAct m next c) s) := by
  obtain ⟨b, -, -, htrace, hreplays, hcfg, htick⟩ := turn_row m next c s
  exact ⟨_, htrace, hreplays, htick, hcfg⟩

/-- T1 is one read, that of the opcode byte (rule R131). -/
theorem makesTrace_turn_fetch (finish : Cpu → Cpu) (s : State) : MakesTrace s (turnWith (fetchWith finish) s) := by
  obtain ⟨b, -, -, h⟩ := fetch_row finish s
  exact ⟨_, h⟩

theorem makesTrace_runCycles (m : Micro) (mk : Nat → Phase) (n : Nat) (rows : List Cycle) (s : State) :
    MakesTrace s (runCycles m mk n rows s) := by
  induction rows generalizing n s with
  | nil => exact .refl s
  | cons c rest ih =>
    have hrow := makesTrace_turn_row m (phaseAfter mk n rest) c s
    rw [runCycles]
    split
    · exact hrow
    · exact hrow.trans (ih (n + 1) _)

/-! ## A step, phase by phase -/

theorem makesTrace_takeInterrupt (k : SeqKind) (s : State) : MakesTrace s (takeInterrupt k s) :=
  makesTrace_runCycles _ _ 1 _ s

theorem makesTrace_runMicro (m : Micro) (s : State) : MakesTrace s (runMicro m s) :=
  (makesTrace_turn_fetch (beginPattern m) s).trans (makesTrace_runCycles m _ 2 m.cycles _)

theorem makesTrace_runIllegal {op : Byte} {s t : State} (h : runIllegal op s = .next t) : MakesTrace s t := by
  cases haction : s.cfg.illegalAction with
  | noOp =>
    rw [runIllegal_noOp haction, Host.Outcome.next.injEq] at h
    exact h ▸ (makesTrace_turn_fetch _ s).trans (makesTrace_runCycles _ _ 2 illegalCycles _)
  | halt =>
    rw [runIllegal_halt haction, Host.Outcome.next.injEq] at h
    exact h ▸ makesTrace_turn_fetch _ s

theorem makesTrace_stepBoundary {s t : State} (h : stepBoundary s = .next t) : MakesTrace s t := by
  unfold stepBoundary at h
  split at h
  · next k hpoll => cases h; exact makesTrace_takeInterrupt k s
  · rw [exec_decodeOpcode] at h
    cases hclass : classify s.cfg (fetchedByte s) with
    | pattern m => rw [hclass] at h; cases h; exact makesTrace_runMicro m s
    | illegal => rw [hclass] at h; exact makesTrace_runIllegal h
    | missing => rw [hclass] at h; cases h

theorem makesTrace_finishRows {m : Micro} {mk : Nat → Phase} {n : Nat} {rows : List Cycle} {s t : State}
    (h : finishRows m mk n rows s = .next t) : MakesTrace s t := by
  obtain ⟨c, rest, -, rfl⟩ := finishRows_next h
  exact makesTrace_runCycles m mk n rows s

theorem makesTrace_finishInstruction {n : Nat} {s t : State} (h : finishInstruction n s = .next t) :
    MakesTrace s t := by
  unfold finishInstruction at h
  split at h
  · exact makesTrace_finishRows h
  · cases h

/-- In one tick a halted core makes no transaction and stays halted; memory is as it was (rule R305). -/
def StaysHalted (s t : State) : Prop :=
  s.cpu.phase = .halted ∧ t.cpu.phase = .halted ∧ coreTrace t = coreTrace s ∧ t.mem = s.mem ∧ t.banks = s.banks ∧
    t.cfg = s.cfg ∧ t.sched.tickCount = s.sched.tickCount + 1

theorem staysHalted_tickWith {s : State} (hphase : s.cpu.phase = .halted) :
    StaysHalted s (tickWith (fun t => t) s) := by
  simp [StaysHalted, tickWith, hphase]

/-- A halted core runs the sequence of a remembered RESET, or makes no transaction (rules R305, R445). -/
theorem makesTrace_or_staysHalted_of_runHalted {s t : State} (hphase : s.cpu.phase = .halted)
    (h : runHalted s = .next t) : MakesTrace s t ∨ StaysHalted s t := by
  unfold runHalted at h
  split at h
  · cases h; exact .inl (makesTrace_takeInterrupt .reset s)
  · cases h; exact .inr (staysHalted_tickWith hphase)

theorem makesTrace_or_staysHalted_of_step {s t : State} (h : step s = .next t) : MakesTrace s t ∨ StaysHalted s t := by
  unfold step at h
  split at h
  · unfold stepRun at h
    split at h
    · exact .inl (makesTrace_stepBoundary h)
    · exact .inl (makesTrace_finishInstruction h)
    · exact .inl (makesTrace_finishRows h)
    · next hphase => exact makesTrace_or_staysHalted_of_runHalted hphase h
  · cases h

/-- Settles O11: each part of a step in which the core acts is a row of turns, each of one transaction; with the
divider 1 the turns are the ticks. -/
theorem stepReplaysMemory : Obligations.StepReplaysMemory :=
  ⟨fun _ _ => makesTrace_or_staysHalted_of_step, fun _ k n h => afterTurns_undivided h k n⟩

end Sys2Proof.Machine
end

section
/-! SUPPORT. The address map and the bus (obligations O48, O49, O50): the entry that the resolution finds, the owner's
response to an access by the kind of the owner, and what an access leaves of the state. -/

namespace Sys2Proof.Machine

/-! ## The entry of an address -/

/-- An entry of `ADDRESS_MAP` contains an address (rule R63). -/
def EntryHolds (e : MapEntry) (a : Addr) : Prop :=
  e.lo ≤ a.toNat ∧ a.toNat ≤ e.hi

theorem not_disjoint_of_entryHolds {e f : MapEntry} {a : Addr} (he : EntryHolds e a) (hf : EntryHolds f a) :
    e.disjoint f ≠ true := by
  obtain ⟨helo, hehi⟩ := he
  obtain ⟨hflo, hfhi⟩ := hf
  simp only [MapEntry.disjoint, ne_eq, Bool.or_eq_true, decide_eq_true_eq]
  omega

theorem disjointMap_iff_pairwise (es : List MapEntry) :
    disjointMap es = true ↔ es.Pairwise fun e f => e.disjoint f = true := by
  induction es with
  | nil => simp [disjointMap]
  | cons e es ih => simp [disjointMap, ih]

theorem disjointMap_of_wellFormed {c : Config} (h : c.wellFormed = true) : disjointMap c.addressMap = true := by
  simp only [Config.wellFormed, Bool.and_eq_true] at h
  obtain ⟨⟨⟨⟨⟨⟨⟨-, hdisjoint⟩, -⟩, -⟩, -⟩, -⟩, -⟩, -⟩ := h
  exact hdisjoint

/-- No entry of a map without overlaps stands before another that contains the same address (rule R63). -/
theorem not_lt_of_entryHolds {es : List MapEntry} (hmap : disjointMap es = true) {i j : Nat} {e f : MapEntry}
    {a : Addr} (hi : es[i]? = some e) (hj : es[j]? = some f) (he : EntryHolds e a) (hf : EntryHolds f a) : ¬ i < j := by
  intro hlt
  obtain ⟨hilt, rfl⟩ := List.getElem?_eq_some_iff.mp hi
  obtain ⟨hjlt, rfl⟩ := List.getElem?_eq_some_iff.mp hj
  exact not_disjoint_of_entryHolds he hf
    (List.pairwise_iff_getElem.mp ((disjointMap_iff_pairwise es).mp hmap) i j hilt hjlt hlt)

theorem eq_of_entryHolds {es : List MapEntry} (hmap : disjointMap es = true) {i j : Nat} {e f : MapEntry} {a : Addr}
    (hi : es[i]? = some e) (hj : es[j]? = some f) (he : EntryHolds e a) (hf : EntryHolds f a) : i = j :=
  Nat.le_antisymm (Nat.not_lt.mp (not_lt_of_entryHolds hmap hj hi hf he))
    (Nat.not_lt.mp (not_lt_of_entryHolds hmap hi hj he hf))

/-- The resolution finds an entry that contains the address wherever the map has one (rule R64). -/
theorem exists_mapEntry_of_entryHolds {c : Config} {a : Addr} {e : MapEntry} (hmem : e ∈ c.addressMap)
    (he : EntryHolds e a) :
    ∃ (f : MapEntry) (j : Nat), mapEntry c a = some f ∧ c.addressMap[j]? = some f ∧ EntryHolds f a := by
  cases hfind : mapEntry c a with
  | none =>
    obtain ⟨helo, hehi⟩ := he
    have hnot := List.find?_eq_none.mp hfind e hmem
    simp [helo, hehi] at hnot
  | some f =>
    obtain ⟨j, hj⟩ := List.getElem?_of_mem (List.mem_of_find?_eq_some hfind)
    exact ⟨f, j, rfl, hj, by simpa [EntryHolds] using List.find?_some hfind⟩

/-- Settles O48: disjoint ranges share no address, and the entry that the resolution finds contains the address. -/
theorem uniqueOwner : Obligations.UniqueOwner := by
  intro c a i j e f hwf hi hj he hf
  have hmap := disjointMap_of_wellFormed hwf
  obtain ⟨g, k, hfind, hk, hg⟩ := exists_mapEntry_of_entryHolds (List.mem_of_getElem? hi) he
  obtain rfl := eq_of_entryHolds hmap hi hk he hg
  exact ⟨eq_of_entryHolds hmap hi hj he hf, hfind.trans (hk.symm.trans hi)⟩

/-! ## The owner's response, by the kind of the owner -/

theorem ramOwned_iff {c : Config} {a : Addr} :
    ramOwned c a = true ↔ ∃ e, mapEntry c a = some e ∧ e.owner = .ram := by
  unfold ramOwned
  cases mapEntry c a <;> simp

theorem memoryOwned_iff {c : Config} {a : Addr} :
    memoryOwned c a = true ↔ ∃ e, mapEntry c a = some e ∧ (e.owner = .ram ∨ e.owner = .rom) := by
  unfold memoryOwned
  cases mapEntry c a <;> simp

theorem resolveRead_unmapped {a : Addr} {s : State} (h : mapEntry s.cfg a = none) :
    resolveRead a s = (s.cfg.openBus, s.countUnmapped) := by
  simp only [resolveRead, h]

theorem resolveRead_bank {a : Addr} {s : State} {e : MapEntry} {k : Nat} (he : mapEntry s.cfg a = some e)
    (ho : e.owner = .bank k) : resolveRead a s = (bankByte s.cfg s.banks k a, s) := by
  simp only [resolveRead, he, ho]

theorem resolveWrite_unmapped {a : Addr} {v : Byte} {s : State} (h : mapEntry s.cfg a = none) :
    resolveWrite a v s = s.countUnmapped := by
  simp only [resolveWrite, h]

theorem resolveWrite_ram {a : Addr} {v : Byte} {s : State} (h : ramOwned s.cfg a = true) :
    resolveWrite a v s = { s with mem := Memory.write s.mem a.toNat v } := by
  obtain ⟨e, he, ho⟩ := ramOwned_iff.mp h
  simp only [resolveWrite, he, ho]

theorem resolveWrite_rom {a : Addr} {v : Byte} {s : State} (h : memoryOwned s.cfg a = true)
    (hram : ramOwned s.cfg a = false) : resolveWrite a v s = s := by
  obtain ⟨e, he, ho | ho⟩ := memoryOwned_iff.mp h
  · rw [ramOwned_iff.mpr ⟨e, he, ho⟩] at hram; cases hram
  · simp only [resolveWrite, he, ho]

theorem resolveWrite_bank {a : Addr} {v : Byte} {s : State} {e : MapEntry} {k : Nat} (he : mapEntry s.cfg a = some e)
    (ho : e.owner = .bank k) : resolveWrite a v s = { s with banks := storeBanks s.cfg s.banks a v } := by
  simp only [resolveWrite, he, ho]

theorem resolveWrite_bankSelect {a : Addr} {v : Byte} {s : State} {e : MapEntry} {k : Nat}
    (he : mapEntry s.cfg a = some e) (ho : e.owner = .bankSelect k) :
    resolveWrite a v s = { s with banks := storeBanks s.cfg s.banks a v } := by
  simp only [resolveWrite, he, ho]

/-! ## Accesses of memory -/

/-- A read of memory changes the trace only (rule R81). -/
theorem busRead_memoryOwned {a : Addr} {s : State} (h : memoryOwned s.cfg a = true) :
    busRead a s = (s.peek a, { s with bus := rd a (s.peek a) :: s.bus }) := by
  simp only [busRead, resolveRead_owned h, State.logBus, rd]

@[simp] theorem busWrite_cfg (a : Addr) (v : Byte) (s : State) : (busWrite a v s).cfg = s.cfg := by
  simp [busWrite]

@[simp] theorem busWrite_banks (a : Addr) (v : Byte) (s : State) :
    (busWrite a v s).banks = storeBanks s.cfg s.banks a v := by
  simp [busWrite]

theorem busWrite_peek (a b : Addr) (v : Byte) (s : State) :
    (busWrite a v s).peek b = if a = b ∧ ramOwned s.cfg a = true then v else s.peek b := by
  simp [busWrite, State.peek, memoryByte_storeIn]

/-- A core write stores at its own address only, and there only if a writable region owns it (rules R64, R65). -/
theorem memoryWritten_busWrite (a : Addr) (v : Byte) (s : State) : memoryWritten s (busWrite a v s) [(a, v)] := by
  refine ⟨fun b hb => ?_, fun w hw => ?_, busWrite_banks a v s⟩
  · have hne : a ≠ b := by simpa [eq_comm] using hb
    simp [busWrite_peek, hne]
  · obtain rfl := List.mem_singleton.mp hw
    simp [busWrite_peek]

theorem busRead_busWrite_ram {a : Addr} {v : Byte} {s : State} (h : ramOwned s.cfg a = true) :
    (busRead a (busWrite a v s)).1 = v := by
  rw [busRead_memoryOwned (by simpa using memoryOwned_of_ramOwned h), busWrite_peek]
  simp [h]

/-- Settles O49: the owner of the address answers the access, and beside it only the trace changes. -/
theorem busAccess : Obligations.BusAccess := by
  intro s a v
  refine ⟨fun hram => ⟨busRead_busWrite_ram hram, memoryWritten_busWrite a v s, ?_⟩, fun howned hram => ?_,
    busRead_memoryOwned, fun hnone => ⟨?_, ?_, ?_⟩⟩
  · simp only [busWrite, resolveWrite_ram hram, State.logBus, wr]
  · simp only [busWrite, resolveWrite_rom howned hram, State.logBus, wr]
  · simp only [busRead, resolveRead_unmapped hnone]
  · simp only [busRead, resolveRead_unmapped hnone, State.logBus, State.countUnmapped, rd]
  · simp only [busWrite, resolveWrite_unmapped hnone, State.logBus, State.countUnmapped, wr]

/-! ## Accesses of banked regions -/

theorem bankByte_of_bankAt {c : Config} {bs : List Bank} {k : Nat} {p : BankCfg × Bank} (h : bankAt c bs k = some p)
    (a : Addr) : bankByte c bs k a = bankRead p.1 p.2 a := by
  simp only [bankByte, h]

theorem storeBanks_bank {c : Config} {bs : List Bank} {a : Addr} {e : MapEntry} {k : Nat} {p : BankCfg × Bank}
    (he : mapEntry c a = some e) (ho : e.owner = .bank k) (hp : bankAt c bs k = some p) (v : Byte) :
    storeBanks c bs a v = bs.set k (bankWrite p.1 p.2 a v) := by
  simp only [storeBanks, he, ho, hp]

theorem storeBanks_bankSelect {c : Config} {bs : List Bank} {a : Addr} {e : MapEntry} {k : Nat} {p : BankCfg × Bank}
    (he : mapEntry c a = some e) (ho : e.owner = .bankSelect k) (hp : bankAt c bs k = some p) (v : Byte) :
    storeBanks c bs a v = bs.set k (bankChoose p.1 p.2 v) := by
  simp only [storeBanks, he, ho, hp]

theorem set_bankAt {c : Config} {bs : List Bank} {k : Nat} {p : BankCfg × Bank} (h : bankAt c bs k = some p) :
    bs.set k p.2 = bs := by
  simp only [bankAt, Option.bind_eq_some_iff, Option.map_eq_some_iff] at h
  obtain ⟨x, -, y, hy, rfl⟩ := h
  obtain ⟨hlt, rfl⟩ := List.getElem?_eq_some_iff.mp hy
  exact List.set_getElem_self hlt

theorem bankWrite_readOnly {c : BankCfg} (h : c.writable = false) (b : Bank) (a : Addr) (v : Byte) :
    bankWrite c b a v = b := by
  simp [bankWrite, h]

theorem bankWrite_select (c : BankCfg) (b : Bank) (a : Addr) (v : Byte) : (bankWrite c b a v).select = b.select := by
  unfold bankWrite; split <;> rfl

/-- A write to a banked region leaves the banks that are not selected as they are (rule R69). -/
theorem bankWrite_content_other (c : BankCfg) (b : Bank) (a : Addr) (v : Byte) {n : Nat} (h : n ≠ bankNumber c b) :
    (bankWrite c b a v).content[n]? = b.content[n]? := by
  unfold bankWrite
  split
  · exact List.getElem?_set_ne h.symm
  · rfl

/-- The window of a writable banked region after a write, the same bank being selected (rule R69). -/
theorem bankRead_bankWrite {c : BankCfg} {b : Bank} (hw : c.writable = true) (hlt : bankNumber c b < b.content.length)
    (a x : Addr) (v : Byte) : bankRead c (bankWrite c b a v) x = if x = a then v else bankRead c b x := by
  have hread : bankRead c (bankWrite c b a v) x =
      Memory.read (Memory.write (b.content.getD (bankNumber c b) []) a.toNat v) x.toNat := by
    rw [bankRead, bankNumber_write]
    simp [bankWrite, hw, hlt, List.getD_eq_getElem?_getD]
  have hsame : bankRead c b x = Memory.read (b.content.getD (bankNumber c b) []) x.toNat := by simp [bankRead, hw]
  rw [hread, hsame, Memory.read_write]
  simp only [BitVec.toNat_inj, eq_comm]

/-- Settles O50: an access of the window goes to the selected bank, and one of the bank register to the register. -/
theorem bankedRegions : Obligations.BankedRegions := by
  intro s a v k e p he hp t
  refine ⟨fun ho => ⟨?read, fun hw hlt => ?writable, fun hw => ?readOnly⟩, fun ho => ?register⟩
  case read =>
    simp only [busRead, resolveRead_bank he ho, bankByte_of_bankAt hp, State.logBus, rd]
  case writable =>
    have ht : t = { s with banks := s.banks.set k (bankWrite p.1 p.2 a v), bus := wr a v :: s.bus } := by
      simp only [t, busWrite, resolveWrite_bank he ho, storeBanks_bank he ho hp, State.logBus, wr]
    exact ⟨bankWrite p.1 p.2 a v, by rw [ht]; exact bankAt_set hp _, bankWrite_select _ _ _ _,
      fun x => bankRead_bankWrite hw hlt a x v, fun n => bankWrite_content_other _ _ _ _, ht⟩
  case readOnly =>
    simp only [t, busWrite, resolveWrite_bank he ho, storeBanks_bank he ho hp, bankWrite_readOnly hw, set_bankAt hp,
      State.logBus, wr]
  case register =>
    simp only [t, busWrite, resolveWrite_bankSelect he ho, storeBanks_bankSelect he ho hp, bankChoose, writeMasked,
      State.logBus, wr]

end Sys2Proof.Machine
end

section
/-! SUPPORT. The Mixer reads memory and touches no other chip (obligation O53): what each part of its update changes
and the transactions that it adds, one after the other. -/

namespace Sys2Proof.Machine

/-! ## What a part of the update can do -/

/-- A read of the Mixer that returned the byte of the memory region that owns the address, and the open-bus value
elsewhere (rules R62, R75). -/
def IsMixerFetch (s : State) (x : Transaction) : Prop :=
  x.origin = .mixer ∧ x.write = false ∧ x.data = (regionByte s.cfg s.mem s.banks x.addr).getD s.cfg.openBus

/-- From `s` to `t` the Mixer adds the transactions `tr` to the trace, the latest first, and changes nothing else but
its own state, its output and the count of unmapped accesses (rules R75, R332). -/
def MixerAdds (tr : List Transaction) (s t : State) : Prop :=
  (∃ n, t = { s with
    mixer := t.mixer
    output := t.output
    bus := tr ++ s.bus
    sched := { s.sched with unmappedCount := n } }) ∧ ∀ x ∈ tr, IsMixerFetch s x

theorem MixerAdds.refl (s : State) : MixerAdds [] s s :=
  ⟨⟨s.sched.unmappedCount, rfl⟩, by simp⟩

theorem MixerAdds.trans {tr tr' : List Transaction} {s t u : State} (h : MixerAdds tr s t) (h' : MixerAdds tr' t u) :
    MixerAdds (tr' ++ tr) s u := by
  obtain ⟨⟨n, ht⟩, hfetch⟩ := h
  obtain ⟨⟨n', hu⟩, hfetch'⟩ := h'
  rw [ht] at hu hfetch'
  refine ⟨⟨n', by simpa using hu⟩, fun x hx => ?_⟩
  rcases List.mem_append.mp hx with hx | hx
  · exact hfetch' x hx
  · exact hfetch x hx

/-! ## The parts of the update -/

theorem mixerFlush_adds (s : State) : MixerAdds [] s (mixerFlush s) := by
  unfold mixerFlush
  split
  · exact .refl s
  · exact ⟨⟨s.sched.unmappedCount, rfl⟩, by simp⟩

theorem mixerFrame_adds (s : State) : MixerAdds [] s (mixerFrame s) := by
  unfold mixerFrame
  simp only
  split
  · exact (mixerFlush_adds s).trans (tr' := []) ⟨⟨(mixerFlush s).sched.unmappedCount, rfl⟩, by simp⟩
  · exact ⟨⟨s.sched.unmappedCount, rfl⟩, by simp⟩

theorem mixerRow_adds (s : State) : MixerAdds [] s (mixerRow s) := by
  unfold mixerRow
  split
  · exact mixerFlush_adds s
  · exact .refl s

theorem mixerTeletext_adds (s : State) : MixerAdds [] s (mixerTeletext s) :=
  ⟨⟨s.sched.unmappedCount, rfl⟩, by simp⟩

/-- One fetch is one read of the Mixer (rules R75, R332). -/
theorem mixerStep_adds (s : State) (a : Addr) :
    MixerAdds [⟨a, false, mixerFetchByte s a, .mixer⟩] s (mixerStep s a) := by
  refine ⟨⟨_, rfl⟩, fun x hx => ?_⟩
  obtain rfl := List.mem_singleton.mp hx
  exact ⟨rfl, rfl, rfl⟩

theorem mixerSteps_add (as : List Addr) (s : State) : ∃ tr, MixerAdds tr s (as.foldl mixerStep s) := by
  induction as generalizing s with
  | nil => exact ⟨[], .refl s⟩
  | cons a as ih =>
    obtain ⟨tr, h⟩ := ih (mixerStep s a)
    exact ⟨_, (mixerStep_adds s a).trans h⟩

/-- The fetches of a tick are made inside the active window only (rule R336). -/
theorem mixerFetches_add (s : State) :
    ∃ tr, MixerAdds tr s (mixerFetches s) ∧ (s.vtg.displayEnable = false → tr = []) := by
  unfold mixerFetches
  split
  · next hwindow =>
    obtain ⟨tr, h⟩ := mixerSteps_add
      (videoAddrs s.cfg.mixer.videoMap s.vtg.ma s.vtg.ra s.vtg.charPhase s.mixer.regs.mode) s
    exact ⟨tr, h, by simp [hwindow]⟩
  · exact ⟨[], .refl s, fun _ => rfl⟩

theorem MixerAdds.vtg {tr : List Transaction} {s t : State} (h : MixerAdds tr s t) : t.vtg = s.vtg := by
  obtain ⟨⟨n, ht⟩, -⟩ := h
  rw [ht]

theorem mixerUpdate_adds (s : State) :
    ∃ tr, MixerAdds tr s (mixerUpdate s) ∧ (s.vtg.displayEnable = false → tr = []) := by
  have hbefore : MixerAdds [] s (mixerTeletext (mixerRow (mixerFrame s))) :=
    ((mixerFrame_adds s).trans (mixerRow_adds _)).trans (mixerTeletext_adds _)
  obtain ⟨tr, hfetches, hwindow⟩ := mixerFetches_add (mixerTeletext (mixerRow (mixerFrame s)))
  rw [hbefore.vtg] at hwindow
  have hupdate := hbefore.trans hfetches
  rw [List.append_nil] at hupdate
  exact ⟨tr, hupdate, hwindow⟩

/-- Settles O53: the update is its parts in a row, and only its fetches add transactions. -/
theorem mixerReadsMemoryOnly : Obligations.MixerReadsMemoryOnly := by
  intro s
  obtain ⟨tr, ⟨⟨n, hframe⟩, hfetch⟩, hwindow⟩ := mixerUpdate_adds s
  have hbus : (mixerUpdate s).bus = tr ++ s.bus := by rw [hframe]
  exact ⟨⟨tr, hbus, hwindow, hfetch⟩, n, by rw [hbus]; exact hframe⟩

end Sys2Proof.Machine
end

section
/-! SUPPORT. Decoding and encoding (obligations O1 to O4): the opcode map both ways, and the decoder, whose answers
under given formats are exactly the instructions that fit them, encoded. -/

namespace Sys2Proof.Machine

/-! ## The opcode map -/

theorem decodeOpcode_encodeOpcode (i : Instr) : decodeOpcode (encodeOpcode i) = i := by
  cases i <;> rfl

/-- The opcode bytes whose instruction has no pattern of its own, in order. -/
def bytesWithoutPattern : List Byte :=
  ((List.finRange 256).map BitVec.ofFin).filter fun b => (definedMicro (decodeOpcode b)).isNone

theorem mem_bytesWithoutPattern (b : Byte) :
    b ∈ bytesWithoutPattern ↔ (definedMicro (decodeOpcode b)).isNone = true := by
  have hall : b ∈ (List.finRange 256).map BitVec.ofFin :=
    List.mem_map.mpr ⟨b.toFin, List.mem_finRange _, rfl⟩
  rw [bytesWithoutPattern, List.mem_filter, and_iff_right hall]

theorem nodup_bytesWithoutPattern : bytesWithoutPattern.Nodup :=
  ((List.nodup_finRange 256).map fun _ _ h => congrArg BitVec.toFin h).filter _

/-- Settles O4: both inverses are lookups in the opcode map, and the list of rule R115 is what a pass over the map
finds without a pattern. -/
theorem opcodeMapOneToOne : Obligations.OpcodeMapOneToOne := by
  unfold Obligations.OpcodeMapOneToOne
  intro undefinedOpcodes
  have hlist : undefinedOpcodes = bytesWithoutPattern := by
    unfold undefinedOpcodes
    decide
  refine ⟨encodeOpcode_decodeOpcode, decodeOpcode_encodeOpcode, fun b => ?_, rfl, ?_⟩
  · rw [hlist, mem_bytesWithoutPattern]
  · rw [hlist]
    exact nodup_bytesWithoutPattern

/-! ## The decoder under given formats -/

/-- With enough bytes after the opcode, the decoder takes the operands of the format (rule R102). -/
theorem decodeAs_of_enough {format : Instr → Format} {b : Byte} {ops : List Byte}
    (h : (format (decodeOpcode b)).operandLength ≤ ops.length) :
    decodeAs format (b :: ops) = .ok (⟨decodeOpcode b, ops.take (format (decodeOpcode b)).operandLength⟩,
      ops.drop (format (decodeOpcode b)).operandLength) :=
  if_neg (Nat.not_lt.mpr h)

/-- With too few bytes after the opcode, the decoder rejects. -/
theorem decodeAs_of_missing {format : Instr → Format} {b : Byte} {ops : List Byte}
    (h : ops.length < (format (decodeOpcode b)).operandLength) :
    decodeAs format (b :: ops) = .error (.operandsMissing (decodeOpcode b)) :=
  if_pos h

theorem fits_iff {format : Instr → Format} {c : Code} :
    c.fits format = true ↔ c.operands.length = (format c.instr).operandLength :=
  beq_iff_eq

/-- The encoding of an instruction that fits the formats is decoded to it, whatever follows. -/
theorem decodeAs_encode {format : Instr → Format} {c : Code} (h : c.fits format = true) (rest : List Byte) :
    decodeAs format (encode c ++ rest) = .ok (c, rest) := by
  obtain ⟨i, ops⟩ := c
  have hlen : (format (decodeOpcode (encodeOpcode i))).operandLength = ops.length := by
    rw [decodeOpcode_encodeOpcode]
    exact (fits_iff.mp h).symm
  have henough : (format (decodeOpcode (encodeOpcode i))).operandLength ≤ (ops ++ rest).length := by
    rw [hlen, List.length_append]
    exact Nat.le_add_right _ _
  rw [encode, List.cons_append, decodeAs_of_enough henough, hlen, List.take_left, List.drop_left,
    decodeOpcode_encodeOpcode]

/-- What the decoder accepts fits the formats and is the encoding of its answer, before what remains. -/
theorem encode_of_decodeAs {format : Instr → Format} {bs : List Byte} {c : Code} {rest : List Byte}
    (h : decodeAs format bs = .ok (c, rest)) : c.fits format = true ∧ encode c ++ rest = bs := by
  cases bs with
  | nil => cases h
  | cons b ops =>
    obtain hlt | hle := Nat.lt_or_ge ops.length (format (decodeOpcode b)).operandLength
    · rw [decodeAs_of_missing hlt] at h
      cases h
    · rw [decodeAs_of_enough hle] at h
      cases h
      refine ⟨fits_iff.mpr (List.length_take_of_le hle), ?_⟩
      rw [encode, List.cons_append, List.take_append_drop, encodeOpcode_decodeOpcode]

/-- Settles O2: `decode` and `decodeIn` are one decoder under two assignments of formats. -/
theorem decodeOfEncode : Obligations.DecodeOfEncode :=
  fun _ _ rest => ⟨fun h => decodeAs_encode h rest, fun h => decodeAs_encode h rest⟩

/-- Settles O3: the inversion of the decoder, for each of the two assignments of formats. -/
theorem encodeOfDecode : Obligations.EncodeOfDecode := by
  refine fun _ _ => ⟨fun _ _ h => encode_of_decodeAs h, fun _ _ h => encode_of_decodeAs h, ?_⟩
  rintro b ops rfl
  exact ⟨fun h => ⟨_, decodeAs_of_enough h⟩, fun h => ⟨_, decodeAs_of_enough h⟩⟩

/-! ## Words of the opcode table -/

theorem operandLength_le_two (f : Format) : f.operandLength ≤ 2 := by
  cases f <;> decide

/-- The three bytes of a table word are always enough, so the instruction read is that of the first byte. -/
theorem decodeTableWord_eq (nbits w : Nat) :
    decodeTableWord nbits w = some (decodeOpcode (BitVec.ofNat 8 (w % 2 ^ nbits))) := by
  rw [decodeTableWord, tableBytes, decode, decodeAs_of_enough (operandLength_le_two _)]

/-- Settles O1: each byte is looked up in the opcode map. -/
theorem tableWords : Obligations.TableWords := by
  unfold Obligations.TableWords
  simp only [decodeTableWord_eq]
  exact ⟨rfl, rfl, rfl, rfl, rfl, rfl, rfl, rfl, rfl, rfl, rfl, rfl⟩

end Sys2Proof.Machine
end

section
/-! SUPPORT. Instructions on the core alone (obligations O15 to O35): the rows of a pattern as a computation on the
core's registers, which a whole instruction follows; and what a trace of few writes leaves in memory. -/

namespace Sys2Proof.Machine

/-! ## The core between two rows -/

/-- The core but for the pending flags, which each boundary routes, and the phase (rules R31, R419). -/
def Cpu.settled (u : Cpu) : Cpu :=
  { u with phase := .fetch, pend := ⟨false, false, false, false⟩ }

@[simp] theorem routed_settled (s : State) : (routed s).settled = s.cpu.settled := by
  simp [Cpu.settled]

@[simp] theorem cycleCommit_settled (m : Micro) (next : Phase) (c : Cycle) (b : Byte) (u : Cpu) :
    (cycleCommit m next c b u).settled = (cycleEffect m c b u).1.settled := rfl

theorem cycleStored_settled (m : Micro) (c : Cycle) (u : Cpu) : cycleStored m c u.settled = cycleStored m c u := by
  cases c <;> rfl

theorem cycleAddr_settled (k : Config) (c : Cycle) (u : Cpu) : cycleAddr k c u.settled = cycleAddr k c u := by
  cases c <;> rfl

/-- No row looks at the pending flags or at the phase. -/
theorem cycleEffect_settled (m : Micro) (c : Cycle) (b : Byte) (u : Cpu) :
    (cycleEffect m c b u.settled).2 = (cycleEffect m c b u).2 ∧
      (cycleEffect m c b u.settled).1.settled = (cycleEffect m c b u).1.settled := by
  cases c with
  | readOrFix =>
    have hfix : u.settled.latch.carryFix = u.latch.carryFix := rfl
    cases h : u.latch.carryFix <;> simp [cycleEffect, hfix, h] <;> rfl
  | branchTake =>
    have hpc : u.settled.pc = u.pc := rfl
    have hlatch : u.settled.latch = u.latch := rfl
    by_cases h : highByte (u.pc + signExtend16 u.latch.dl) = highByte u.pc <;>
      simp [cycleEffect, Cpu.branch, hpc, hlatch, h] <;> rfl
  | enter k => cases k <;> exact ⟨rfl, rfl⟩
  | _ => exact ⟨rfl, rfl⟩

/-- Only tick I1 touches the illegal-instruction condition (rules R34, R425). -/
theorem cycleEffect_illegal {c : Cycle} (h : c.isEntry = false) (m : Micro) (b : Byte) (u : Cpu) :
    (cycleEffect m c b u).1.illegal = u.illegal := by
  cases c with
  | readOrFix => simp only [cycleEffect]; split <;> rfl
  | branchTake => simp only [cycleEffect, Cpu.branch]; split <;> rfl
  | enter k => cases h
  | _ => rfl

/-! ## The rows of a pattern on the core -/

/-- What has to hold after a row with the transaction `t` and the effect `e`: `post` if the row has ended the pattern,
`next` of the core otherwise. -/
def AfterRow (t : Transaction) (e : Cpu × Bool) (next : Cpu → (List Transaction → Cpu → Prop) → Prop)
    (post : List Transaction → Cpu → Prop) : Prop :=
  if e.2 = true then post [t] e.1 else next e.1 fun tr => post (t :: tr)

/-- After a row that goes on with the pattern, the next row follows. -/
theorem AfterRow.goesOn {t : Transaction} {e : Cpu × Bool} {next : Cpu → (List Transaction → Cpu → Prop) → Prop}
    {post : List Transaction → Cpu → Prop} (he : e.2 = false) (h : next e.1 fun tr => post (t :: tr)) :
    AfterRow t e next post := by
  rwa [AfterRow, if_neg (by simp [he])]

/-- Whatever bytes the reads return, the rows lead the core `u` to one of which `post` holds, together with the
transactions made (rule R132). -/
def RowsEnsure (k : Config) (m : Micro) : List Cycle → Cpu → (List Transaction → Cpu → Prop) → Prop
  | [], u, post => post [] u
  | c :: rest, u, post =>
    match cycleStored m c u with
    | none => ∀ b, AfterRow (rd (cycleAddr k c u) b) (cycleEffect m c b u) (RowsEnsure k m rest) post
    | some v => AfterRow (wr (cycleAddr k c u) v) (cycleEffect m c v u) (RowsEnsure k m rest) post

/-- `RowsEnsure` for T1 and the rows that follow it (rules R131, R132). -/
def InstrEnsures (k : Config) (m : Micro) (u : Cpu) (post : List Transaction → Cpu → Prop) : Prop :=
  ∀ op, RowsEnsure k m m.cycles { u with latch := { u.latch with ir := op }, pc := u.pc + 1#16 } fun tr =>
    post (rd u.pc op :: tr)

theorem Makes.cfg_eq {s t : State} {tr : List Transaction} (h : Makes s t tr) : t.cfg = s.cfg :=
  h.2.2.2

/-- From `s` to `t` the core makes the transactions `tr` and computes the core `u`. -/
structure Computes (s t : State) (tr : List Transaction) (u : Cpu) : Prop where
  makes : Makes s t tr
  settled : t.cpu.settled = u.settled
  illegal : u.illegal = s.cpu.illegal
  seqKind : u.seqKind = s.cpu.seqKind

theorem Computes.trans {s t v : State} {tr tr' : List Transaction} {u w : Cpu} (h : Computes s t tr u)
    (h' : Computes t v tr' w) : Computes s v (tr ++ tr') w where
  makes := h.makes.trans h'.makes
  settled := h'.settled
  illegal := h'.illegal.trans ((congrArg Cpu.illegal h.settled).trans h.illegal)
  seqKind := h'.seqKind.trans ((congrArg Cpu.seqKind h.settled).trans h.seqKind)

/-- From where a run has come, the core goes on as computed. -/
theorem Computes.restart {s t : State} {tr : List Transaction} {u : Cpu} (h : Computes s t tr u) :
    Computes t t [] u where
  makes := .refl t
  settled := h.settled
  illegal := (congrArg Cpu.illegal h.settled).symm
  seqKind := (congrArg Cpu.seqKind h.settled).symm

/-- What `RowsEnsure` says of the first row, whichever byte its transaction transfers. -/
theorem RowsEnsure.afterRow {k : Config} {m : Micro} {c : Cycle} {rest : List Cycle} {u : Cpu}
    {post : List Transaction → Cpu → Prop} (h : RowsEnsure k m (c :: rest) u post) {b : Byte}
    (hb : ∀ v, cycleStored m c u = some v → b = v) :
    AfterRow ⟨cycleAddr k c u, (cycleStored m c u).isSome, b, .core⟩ (cycleEffect m c b u) (RowsEnsure k m rest)
      post := by
  unfold RowsEnsure at h
  cases hs : cycleStored m c u with
  | none => rw [hs] at h; exact h b
  | some v => obtain rfl := hb v hs; rw [hs] at h; exact h

/-- The turn of a row computes the row's effect; the phase after it is the next row's, or `Fetch` if the row ends the
pattern (rule R132). -/
theorem computes_turn_row (m : Micro) (next : Phase) {c : Cycle} {s : State} {u : Cpu} (hentry : c.isEntry = false)
    (hu : Computes s s [] u) :
    ∃ b, (∀ v, cycleStored m c u = some v → b = v) ∧
      Computes s (turnWith (cycleAct m next c) s) [⟨cycleAddr s.cfg c u, (cycleStored m c u).isSome, b, .core⟩]
        (cycleEffect m c b u).1 ∧
      (turnWith (cycleAct m next c) s).cpu.phase = if (cycleEffect m c b u).2 = true then .fetch else next := by
  obtain ⟨b, hb, hcpu, htrace, hreplays, hcfg, htick⟩ := turn_row m next c s
  have hrouted : (coreView s).cpu.settled = u.settled := (routed_settled s).trans hu.settled
  have hstored : cycleStored m c (coreView s).cpu = cycleStored m c u := by
    rw [← cycleStored_settled, hrouted, cycleStored_settled]
  have haddr : cycleAddr s.cfg c (coreView s).cpu = cycleAddr s.cfg c u := by
    rw [← cycleAddr_settled, hrouted, cycleAddr_settled]
  have heffect := cycleEffect_settled m c b (coreView s).cpu
  rw [hrouted, (cycleEffect_settled m c b u).1, (cycleEffect_settled m c b u).2] at heffect
  rw [hstored] at hb htrace hreplays
  rw [haddr] at htrace hreplays
  refine ⟨b, hb, ⟨⟨htrace, hreplays, htick, hcfg⟩, ?_, ?_, ?_⟩, ?_⟩
  · rw [hcpu, cycleCommit_settled, heffect.2]
  · exact (cycleEffect_illegal hentry m b u).trans hu.illegal
  · exact (cycleEffect_seqKind hentry m b u).trans hu.seqKind
  · rw [hcpu, cycleCommit_phase, heffect.1]

/-- A run of rows computes what `RowsEnsure` says of them, for the bytes that the reads return. -/
theorem RowsEnsure.computes {m : Micro} {rows : List Cycle} {n : Nat} {s : State} {u : Cpu}
    {post : List Transaction → Cpu → Prop} (hentry : ∀ c ∈ rows, c.isEntry = false)
    (hu : Computes s s [] u) (h : RowsEnsure s.cfg m rows u post) :
    ∃ tr v, Computes s (runCycles m .executeCycle n rows s) tr v ∧ post tr v := by
  induction rows generalizing n s u post with
  | nil => exact ⟨[], u, hu, h⟩
  | cons c rest ih =>
    obtain ⟨hc, hrest⟩ := List.forall_mem_cons.mp hentry
    obtain ⟨b, hb, hrow, hphase⟩ := computes_turn_row m (phaseAfter .executeCycle n rest) hc hu
    have hafter := h.afterRow hb
    rw [runCycles, hphase]
    unfold AfterRow at hafter
    split at hafter
    · next hends => exact ⟨_, _, by simpa [hends] using hrow, hafter⟩
    · next hgoes =>
      rw [← hrow.makes.cfg_eq] at hafter
      obtain ⟨tr, v, hcomputes, hpost⟩ := ih (n := n + 1) hrest hrow.restart hafter
      refine ⟨_, v, ?_, hpost⟩
      cases rest <;> simpa [hgoes, phaseAfter] using hrow.trans hcomputes

/-! ## A whole instruction -/

theorem Runs.makes {s t : State} {tr : List Transaction} (h : Runs s t tr) : Makes s t tr :=
  h.1

/-- The instruction leads from `s` to `t`, with the transactions `tr`, and leaves the registers, the program counter
and the latches as they are in `u`. -/
structure Executes (i : Instr) (s t : State) (tr : List Transaction) (u : Cpu) : Prop where
  exec_eq : exec i s = .next t
  runs : Runs s t tr
  regs : t.cpu.regs = u.regs
  pc : t.cpu.pc = u.pc
  latch : t.cpu.latch = u.latch

/-- To show a goal about an instruction at a state, show it of what the instruction's pattern computes on the core,
whatever bytes are read. For a given pattern `intro` computes the transactions and the core, with one name for each
byte read, from the opcode on. -/
theorem InstrEnsures.elim {i : Instr} {m : Micro} (s : State) {goal : Prop} (hm : definedMicro i = some m)
    (hentry : m.cycles.all (fun c => !c.isEntry) = true)
    (h : InstrEnsures s.cfg m s.cpu fun tr u => ∀ t, Executes i s t tr u → goal) : goal := by
  obtain ⟨op, hcpu, -, hmakes⟩ := fetch_row (beginPattern m) s
  have hT1 : Computes s (turnWith (fetchWith (beginPattern m)) s) [rd s.cpu.pc op]
      { s.cpu with latch := { s.cpu.latch with ir := op }, pc := s.cpu.pc + 1#16 } :=
    ⟨hmakes, by simp [hcpu, beginPattern, Cpu.settled], rfl, rfl⟩
  have hrows := h op
  rw [← hmakes.cfg_eq] at hrows
  obtain ⟨tr, v, hcomputes, hpost⟩ := hrows.computes (n := 2) (by simpa using hentry) hT1.restart
  have hall : Computes s (runMicro m s) (rd s.cpu.pc op :: tr) v := hT1.trans hcomputes
  exact hpost (runMicro m s)
    { exec_eq := by rw [exec_eq, hm]; rfl
      runs := ⟨hall.makes, runMicro_phase m s, (congrArg Cpu.illegal hall.settled).trans hall.illegal,
        (congrArg Cpu.seqKind hall.settled).trans hall.seqKind⟩
      regs := (congrArg Cpu.regs hall.settled :)
      pc := (congrArg Cpu.pc hall.settled :)
      latch := (congrArg Cpu.latch hall.settled :) }

/-- The same for a row of the opcode table: its opcode byte, its instruction, and a goal at every state. -/
theorem InstrEnsures.tableRow {b : Byte} {i : Instr} {m : Micro} {goal : State → Prop}
    (hrow : decodeOpcode b = i ∧ definedMicro i = some m) (hentry : m.cycles.all (fun c => !c.isEntry) = true)
    (h : ∀ s, InstrEnsures s.cfg m s.cpu fun tr u => ∀ t, Executes i s t tr u → goal s) :
    decodeOpcode b = i ∧ ∀ s, goal s :=
  ⟨hrow.1, fun s => (h s).elim s hrow.2 hentry⟩

/-! ## What a trace leaves in memory -/

theorem writesOf_cons (x : Transaction) (tr : List Transaction) :
    writesOf (x :: tr) = if x.write = true then (x.addr, x.data) :: writesOf tr else writesOf tr := by
  rw [writesOf, List.filterMap_cons]
  cases x.write <;> rfl

/-- The last byte written at an address stands last in the list of the writes. -/
theorem lastWritten_eq_lookup (a : Addr) (tr : List Transaction) :
    lastWritten a tr = (writesOf tr).reverse.lookup a := by
  induction tr with
  | nil => rfl
  | cons x tr ih =>
    rw [lastWritten, ih, writesOf_cons]
    cases hw : x.write with
    | false => cases h : (writesOf tr).reverse.lookup a <;> simp [h]
    | true =>
      rw [if_pos rfl, List.reverse_cons, List.lookup_append]
      cases h : (writesOf tr).reverse.lookup a with
      | some v => rfl
      | none =>
        obtain rfl | ha := eq_or_ne x.addr a
        · simp
        · simp [List.lookup_cons, ha, beq_false_of_ne ha.symm]

theorem lookup_reverse_of_nodup {α β : Type} [BEq α] [LawfulBEq α] {l : List (α × β)}
    (hl : (l.map fun w => w.1).Nodup) {w : α × β} (hw : w ∈ l) : l.reverse.lookup w.1 = some w.2 := by
  obtain ⟨l₁, l₂, rfl⟩ := List.append_of_mem hw
  rw [List.map_append, List.map_cons, List.nodup_append] at hl
  refine List.lookup_eq_some_iff.mpr ⟨l₂.reverse, l₁.reverse, by simp, fun p hp => ?_⟩
  have hne : w.1 ≠ p.1 := by
    intro heq
    exact (List.nodup_cons.mp hl.2.1).1 (heq ▸ List.mem_map_of_mem (List.mem_reverse.mp hp))
  simpa using hne

/-- What a run has stored when it writes each address once: exactly its writes. -/
theorem Makes.memoryWritten_once {s t : State} {tr : List Transaction} {ws : List (Addr × Byte)} (h : Makes s t tr)
    (hws : writesOf tr = ws) (honce : (ws.map fun w => w.1).Nodup) : Sys2Proof.Machine.memoryWritten s t ws := by
  subst hws
  refine h.memoryWritten (fun w hw => ?_) (fun a ha => ?_) rfl
  · rw [lastWritten_eq_lookup, lookup_reverse_of_nodup honce hw]
  · rw [lastWritten_eq_lookup, List.lookup_eq_none_iff]
    intro p hp
    have hne : a ≠ p.1 := by
      rintro rfl
      exact ha (List.mem_map_of_mem (List.mem_reverse.mp hp))
    simpa using hne

/-- What a run has stored when it writes one address twice: the second byte (rule R137). -/
theorem Makes.memoryWritten_twice {s t : State} {tr : List Transaction} {a : Addr} {x v : Byte} (h : Makes s t tr)
    (hws : writesOf tr = [(a, x), (a, v)]) : Sys2Proof.Machine.memoryWritten s t [(a, v)] := by
  refine h.memoryWritten (fun w hw => ?_) (fun b hb => ?_) ?_
  · obtain rfl := List.mem_singleton.mp hw
    simp [lastWritten_eq_lookup, hws]
  · have hne : b ≠ a := by simpa using hb
    simp [lastWritten_eq_lookup, hws, List.lookup_cons, beq_false_of_ne hne]
  · simp [hws, storeBanks_twice]

/-- An instruction that only reads leaves memory as it was. -/
theorem Executes.memorySame {i : Instr} {s t : State} {tr : List Transaction} {u : Cpu} (h : Executes i s t tr u)
    (hreads : tr.all (fun x => !x.write) = true) : Sys2Proof.Machine.memorySame s t :=
  h.runs.makes.reads_same (by simpa using hreads)

/-- What an instruction has stored that writes once. -/
theorem Executes.memoryWritten {i : Instr} {s t : State} {tr : List Transaction} {u : Cpu} {a : Addr} {v : Byte}
    (h : Executes i s t tr u) (hwrites : writesOf tr = [(a, v)]) :
    Sys2Proof.Machine.memoryWritten s t [(a, v)] :=
  h.runs.makes.memoryWritten_once hwrites (List.nodup_singleton a)

/-- What an instruction has stored that writes the unmodified and the modified value (rule R137). -/
theorem Executes.memoryModified {i : Instr} {s t : State} {tr : List Transaction} {u : Cpu} {a : Addr} {x v : Byte}
    (h : Executes i s t tr u) (hwrites : writesOf tr = [(a, x), (a, v)]) :
    Sys2Proof.Machine.memoryWritten s t [(a, v)] :=
  h.runs.makes.memoryWritten_twice hwrites

end Sys2Proof.Machine
end

section
/-! SUPPORT. The read class and the one-byte instructions (obligations O15 to O22): each instruction's row of the
opcode table gives its pattern and operation, and the pattern computes on the core what the statement says. The
statements' sums are spelled as the rows make them, one increment at a time; where a byte is read on one path only, the
other path names an arbitrary one. -/

namespace Sys2Proof.Machine

/-! ## The program counter, byte by byte -/

theorem addr_add_two (a : Addr) : a + 2#16 = a + 1#16 + 1#16 :=
  (BitVec.add_assoc a 1#16 1#16).symm

theorem addr_add_three (a : Addr) : a + 3#16 = a + 1#16 + 1#16 + 1#16 := by
  rw [← addr_add_two, BitVec.add_assoc]; rfl

/-! ## Indexed addresses -/

theorem byteCarry_iff {a b : Byte} : byteCarry a b = true ↔ 256 ≤ a.toNat + b.toNat :=
  decide_eq_true_iff

theorem byteCarry_eq_false_iff {a b : Byte} : byteCarry a b = false ↔ ¬256 ≤ a.toNat + b.toNat :=
  decide_eq_false_iff_not

/-- A page is crossed exactly when the high byte changes (rule R149). -/
theorem crossed_iff_highByte_ne (lo hi i : Byte) :
    256 ≤ lo.toNat + i.toNat ↔ highByte (eaAbsolute lo hi) ≠ highByte (eaIndexed lo hi i) := by
  rw [← byteCarry_iff, ← eaIndexed_fix, eaAbsolute, highByte_join, highByte_join]
  cases byteCarry lo i <;> simp

/-- A row that reads the operand, or the wrong page if adding the index `i` to the low byte `lo` has carried (rules
R142, R147). -/
theorem rowsEnsure_readOrFix {k : Config} {m : Micro} {rest : List Cycle} {u : Cpu}
    {post : List Transaction → Cpu → Prop} (lo i : Byte) (hcarry : u.latch.carryFix = byteCarry lo i)
    (hcross : byteCarry lo i = true → ∀ b, RowsEnsure k m rest u.fixAdh fun tr =>
      post (rd (latchAddr u.latch .absolute) b :: tr))
    (hsame : byteCarry lo i = false → ∀ b, post [rd (latchAddr u.latch .absolute) b] (u.operate m b)) :
    RowsEnsure k m (.readOrFix :: rest) u post := by
  intro b
  cases h : byteCarry lo i with
  | true => simpa [AfterRow, cycleEffect, cycleAddr, hcarry, h] using hcross h b
  | false => simpa [AfterRow, cycleEffect, cycleAddr, hcarry, h] using hsame h b

/-! ## The statements -/

/-- Settles O15: pattern `IMP` computes the operation and discards the byte it reads. -/
theorem impliedInstructions : Obligations.ImpliedInstructions := by
  intro p hp
  refine InstrEnsures.tableRow (m := { cycles := patImp, exec := fun r _ => p.2.2 r })
    (by fin_cases hp <;> exact ⟨rfl, rfl⟩) rfl ?_
  intro s op d t h
  exact ⟨t, op, d, h.exec_eq, h.runs, h.regs, h.pc, h.latch, h.memorySame rfl⟩

/-- Settles O16: pattern `IMM` computes the operation on the byte after the opcode. -/
theorem immediateReads : Obligations.ImmediateReads := by
  intro p hp
  refine InstrEnsures.tableRow (m := { cycles := patImm, exec := p.2.2 })
    (by fin_cases hp <;> exact ⟨rfl, rfl⟩) rfl ?_
  intro s op m t h
  rw [addr_add_two]
  exact ⟨t, op, m, h.exec_eq, h.runs, h.regs, h.pc, h.latch, h.memorySame rfl⟩

/-- Settles O17: pattern `ZP_R` reads the operand at the address whose low byte is `ADL` and whose high byte is 0. -/
theorem zeroPageReads : Obligations.ZeroPageReads := by
  intro p hp
  refine InstrEnsures.tableRow (m := { cycles := patZpR, exec := p.2.2 })
    (by fin_cases hp <;> exact ⟨rfl, rfl⟩) rfl ?_
  intro s op lo m t h
  rw [addr_add_two]
  exact ⟨t, op, lo, m, h.exec_eq, h.runs, h.regs, h.pc, h.latch, h.memorySame rfl⟩

/-- Settles O18: patterns `ZPX_R` and `ZPY_R` add the index to `ADL` alone, so the sum stays in page zero. -/
theorem zeroPageIndexedReads : Obligations.ZeroPageIndexedReads := by
  intro p hp
  refine InstrEnsures.tableRow (m := { cycles := patZpIndexedR p.2.2.1, exec := p.2.2.2 })
    (by fin_cases hp <;> exact ⟨rfl, rfl⟩) rfl ?_
  intro s op lo d m t h
  rw [addr_add_two]
  exact ⟨t, op, lo, d, m, h.exec_eq, h.runs, h.regs, h.pc, h.memorySame rfl⟩

/-- Settles O19: pattern `ABS_R` puts the address together in `ADL` and `ADH`, low byte first. -/
theorem absoluteReads : Obligations.AbsoluteReads := by
  intro p hp
  refine InstrEnsures.tableRow (m := { cycles := patAbsR, exec := p.2.2 })
    (by fin_cases hp <;> exact ⟨rfl, rfl⟩) rfl ?_
  intro s op lo hi m t h
  rw [addr_add_two, addr_add_three]
  exact ⟨t, op, lo, hi, m, h.exec_eq, h.runs, h.regs, h.pc, h.latch, h.memorySame rfl⟩

/-- Settles O20: patterns `ABX_R` and `ABY_R`, by whether adding the index to the low byte carries. -/
theorem absoluteIndexedReads : Obligations.AbsoluteIndexedReads := by
  intro p hp
  refine InstrEnsures.tableRow (m := { cycles := patAbsIndexedR p.2.2.1, exec := p.2.2.2 })
    (by fin_cases hp <;> exact ⟨rfl, rfl⟩) rfl ?_
  intro s op lo hi
  refine .goesOn rfl
    (rowsEnsure_readOrFix lo (indexOf s.cpu.regs p.2.2.1) rfl (fun hcarry => ?cross) fun hcarry => ?same)
  case cross =>
    intro d m t h
    refine ⟨t, op, lo, hi, d, m, h.exec_eq, ?_, crossed_iff_highByte_ne lo hi _, h.regs, ?_, ?_, h.memorySame rfl⟩
    · rw [if_pos (byteCarry_iff.mp hcarry), ← eaIndexed_fix, addr_add_two]; exact h.runs
    · rw [addr_add_three]; exact h.pc
    · rw [← eaIndexed_fix, highByte_join]; exact h.latch
  case same =>
    intro m t h
    refine ⟨t, op, lo, hi, 0#8, m, h.exec_eq, ?_, crossed_iff_highByte_ne lo hi _, h.regs, ?_, ?_, h.memorySame rfl⟩
    · rw [if_neg (byteCarry_eq_false_iff.mp hcarry), eaIndexed_same hcarry, addr_add_two]; exact h.runs
    · rw [addr_add_three]; exact h.pc
    · rw [eaIndexed_same hcarry, highByte_join]; exact h.latch

/-- Settles O21: pattern `IZX_R` computes the pointer in the byte `PTR`, so it stays in page zero. -/
theorem indexedIndirectReads : Obligations.IndexedIndirectReads := by
  intro p hp
  refine InstrEnsures.tableRow (m := { cycles := patIzxR, exec := p.2.2 })
    (by fin_cases hp <;> exact ⟨rfl, rfl⟩) rfl ?_
  intro s op zp d lo hi m t h
  rw [addr_add_two]
  exact ⟨t, op, zp, d, lo, hi, m, h.exec_eq, h.runs, h.regs, h.pc, h.memorySame rfl⟩

/-- Settles O22: pattern `IZY_R`, by whether adding `Y` to the low byte of the base carries. -/
theorem indirectIndexedReads : Obligations.IndirectIndexedReads := by
  intro p hp
  refine InstrEnsures.tableRow (m := { cycles := patIzyR, exec := p.2.2 })
    (by fin_cases hp <;> exact ⟨rfl, rfl⟩) rfl ?_
  intro s op zp lo hi
  rw [addr_add_two]
  refine .goesOn rfl (rowsEnsure_readOrFix lo s.cpu.regs.y rfl (fun hcarry => ?cross) fun hcarry => ?same)
  case cross =>
    intro d m t h
    refine ⟨t, op, zp, lo, hi, d, m, h.exec_eq, ?_, h.regs, h.pc, h.memorySame rfl⟩
    rw [if_pos (byteCarry_iff.mp hcarry), ← eaIndexed_fix]; exact h.runs
  case same =>
    intro m t h
    refine ⟨t, op, zp, lo, hi, 0#8, m, h.exec_eq, ?_, h.regs, h.pc, h.memorySame rfl⟩
    rw [if_neg (byteCarry_eq_false_iff.mp hcarry), eaIndexed_same hcarry]; exact h.runs

end Sys2Proof.Machine
end

section
/-! SUPPORT. The store class and the read-modify-write class (obligations O23 to O29): as for the read class, and each
instruction writes at one address. -/

namespace Sys2Proof.Machine

/-- The operation of a read-modify-write instruction, from what it does to the flags and the byte. -/
def modifyOf (g : Flags → Byte → Byte × Flags) (r : Regs) (v : Byte) : Byte × Regs :=
  ((g r.p v).1, { r with p := (g r.p v).2 })

/-! ## Stores -/

/-- Settles O23: patterns `ZP_W`, `ZPX_W` and `ZPY_W`, whose last tick is their one write. -/
theorem zeroPageStores : Obligations.ZeroPageStores := by
  refine ⟨fun p hp => ?plain, fun p hp => ?indexed⟩
  case plain =>
    refine InstrEnsures.tableRow (m := { cycles := patZpW, val := p.2.2 })
      (by fin_cases hp <;> exact ⟨rfl, rfl⟩) rfl ?_
    intro s op lo t h
    rw [addr_add_two]
    exact ⟨t, op, lo, h.exec_eq, h.runs, h.regs, h.pc, h.latch, h.memoryWritten rfl⟩
  case indexed =>
    refine InstrEnsures.tableRow (m := { cycles := patZpIndexedW p.2.2.1, val := p.2.2.2 })
      (by fin_cases hp <;> exact ⟨rfl, rfl⟩) rfl ?_
    intro s op lo d t h
    rw [addr_add_two]
    exact ⟨t, op, lo, d, h.exec_eq, h.runs, h.regs, h.pc, h.memoryWritten rfl⟩

/-- Settles O24: pattern `ABS_W`, whose last tick is its one write. -/
theorem absoluteStores : Obligations.AbsoluteStores := by
  intro p hp
  refine InstrEnsures.tableRow (m := { cycles := patAbsW, val := p.2.2 })
    (by fin_cases hp <;> exact ⟨rfl, rfl⟩) rfl ?_
  intro s op lo hi t h
  rw [addr_add_two, addr_add_three]
  exact ⟨t, op, lo, hi, h.exec_eq, h.runs, h.regs, h.pc, h.memoryWritten rfl⟩

/-- Settles O25: patterns `ABX_W` and `ABY_W`, whose fourth tick reads before the carry is in the high byte. -/
theorem absoluteIndexedStores : Obligations.AbsoluteIndexedStores := by
  intro p hp
  refine InstrEnsures.tableRow (m := { cycles := patAbsIndexedW p.2.2.1, val := p.2.2.2 })
    (by fin_cases hp <;> exact ⟨rfl, rfl⟩) rfl ?_
  intro s op lo hi d t h
  rw [addr_add_two, addr_add_three]
  refine ⟨t, op, lo, hi, d, ?_⟩
  simp only [← eaIndexed_fix, highByte_join]
  exact ⟨h.exec_eq, h.runs, h.regs, h.pc, h.latch, h.memoryWritten rfl⟩

/-- Settles O26: pattern `IZX_W` indexes the pointer, pattern `IZY_W` the address that the pointer gives. -/
theorem indirectStores : Obligations.IndirectStores := by
  refine ⟨rfl, rfl, fun s => InstrEnsures.elim s (i := .staIzx) rfl rfl ?indexedPointer,
    fun s => InstrEnsures.elim s (i := .staIzy) rfl rfl ?indexedBase⟩
  case indexedPointer =>
    intro op zp d lo hi t h
    rw [addr_add_two]
    exact ⟨t, op, zp, d, lo, hi, h.exec_eq, h.runs, h.regs, h.pc, h.memoryWritten rfl⟩
  case indexedBase =>
    intro op zp lo hi d t h
    rw [addr_add_two]
    refine ⟨t, op, zp, lo, hi, d, ?_⟩
    simp only [← eaIndexed_fix]
    exact ⟨h.exec_eq, h.runs, h.regs, h.pc, h.memoryWritten rfl⟩

/-! ## Read, modify, write -/

/-- Settles O27: patterns `ZP_M` and `ZPX_M` write the byte of `DL`, then what the operation makes of it. -/
theorem zeroPageModify : Obligations.ZeroPageModify := by
  refine ⟨fun p hp => ?plain, fun p hp => ?indexed⟩
  case plain =>
    refine InstrEnsures.tableRow (m := { cycles := patZpM, f := modifyOf p.2.2 })
      (by fin_cases hp <;> exact ⟨rfl, rfl⟩) rfl ?_
    intro s op lo v t h
    rw [addr_add_two]
    exact ⟨t, op, lo, v, h.exec_eq, h.runs, h.regs, h.pc, h.latch, h.memoryModified rfl⟩
  case indexed =>
    refine InstrEnsures.tableRow (m := { cycles := patZpIndexedM .x, f := modifyOf p.2.2 })
      (by fin_cases hp <;> exact ⟨rfl, rfl⟩) rfl ?_
    intro s op lo d v t h
    rw [addr_add_two]
    exact ⟨t, op, lo, d, v, h.exec_eq, h.runs, h.regs, h.pc, h.memoryModified rfl⟩

/-- Settles O28: pattern `ABS_M` ends in the same three ticks as `ZP_M`, at the absolute address. -/
theorem absoluteModify : Obligations.AbsoluteModify := by
  intro p hp
  refine InstrEnsures.tableRow (m := { cycles := patAbsM, f := modifyOf p.2.2 })
    (by fin_cases hp <;> exact ⟨rfl, rfl⟩) rfl ?_
  intro s op lo hi v t h
  rw [addr_add_two, addr_add_three]
  exact ⟨t, op, lo, hi, v, h.exec_eq, h.runs, h.regs, h.pc, h.memoryModified rfl⟩

/-- Settles O29: pattern `ABX_M`, whose fourth tick reads before the carry is in the high byte. -/
theorem absoluteIndexedModify : Obligations.AbsoluteIndexedModify := by
  intro p hp
  refine InstrEnsures.tableRow (m := { cycles := patAbsIndexedM .x, f := modifyOf p.2.2 })
    (by fin_cases hp <;> exact ⟨rfl, rfl⟩) rfl ?_
  intro s op lo hi d v t h
  rw [addr_add_two, addr_add_three]
  refine ⟨t, op, lo, hi, d, v, ?_⟩
  simp only [← eaIndexed_fix, highByte_join]
  exact ⟨h.exec_eq, h.runs, h.regs, h.pc, h.latch, h.memoryModified rfl⟩

end Sys2Proof.Machine
end

section
/-! SUPPORT. Branches, the stack instructions, subroutines, `RTI`, `BRK` and the jumps (obligations O30 to O35). -/

namespace Sys2Proof.Machine

/-! ## Branches -/

/-- The row that tests the condition ends the pattern when it does not hold (rule R151). -/
theorem rowsEnsure_branchTest {k : Config} {m : Micro} {rest : List Cycle} {u : Cpu}
    {post : List Transaction → Cpu → Prop}
    (hno : m.cond u.regs = false → ∀ b,
      post [rd u.pc b] { u with pc := u.pc + 1#16, latch := { u.latch with dl := b } })
    (hyes : m.cond u.regs = true → ∀ b,
      RowsEnsure k m rest { u with pc := u.pc + 1#16, latch := { u.latch with dl := b } } fun tr =>
        post (rd u.pc b :: tr)) :
    RowsEnsure k m (.branchTest :: rest) u post := by
  intro b
  cases h : m.cond u.regs with
  | false => simpa [AfterRow, cycleEffect, cycleAddr, h] using hno h b
  | true => simpa [AfterRow, cycleEffect, cycleAddr, h] using hyes h b

theorem branch_of_same_page {u : Cpu} (h : highByte (branchTarget u.pc u.latch.dl) = highByte u.pc) :
    u.branch = ({ u with pc := branchTarget u.pc u.latch.dl, latch := { u.latch with carryFix := false } }, true) :=
  if_pos h

theorem branch_of_other_page {u : Cpu} (h : highByte (branchTarget u.pc u.latch.dl) ≠ highByte u.pc) :
    u.branch = ({ u with
      pc := join (highByte u.pc) (lowByte (branchTarget u.pc u.latch.dl))
      latch := { u.latch with carryFix := true } }, false) :=
  if_neg h

/-- A taken branch ends the pattern when the target is in the same page (rule R151). -/
theorem rowsEnsure_branchTake {k : Config} {m : Micro} {rest : List Cycle} {u : Cpu} {next target : Addr}
    {post : List Transaction → Cpu → Prop} (hnext : u.pc = next) (htarget : branchTarget next u.latch.dl = target)
    (hsame : highByte target = highByte next → ∀ b,
      post [rd next b] { u with pc := target, latch := { u.latch with carryFix := false } })
    (hfar : highByte target ≠ highByte next → ∀ b,
      RowsEnsure k m rest { u with
        pc := join (highByte next) (lowByte target), latch := { u.latch with carryFix := true } }
        fun tr => post (rd next b :: tr)) :
    RowsEnsure k m (.branchTake :: rest) u post := by
  subst hnext htarget
  intro b
  change AfterRow (rd u.pc b) u.branch _ _
  by_cases h : highByte (branchTarget u.pc u.latch.dl) = highByte u.pc
  · rw [branch_of_same_page h]; exact hsame h b
  · rw [branch_of_other_page h]; exact hfar h b

/-- The correction of the high byte leads to the target (rule R151). -/
theorem branchHigh_pc {u : Cpu} {next : Addr}
    (hpc : u.pc = join (highByte next) (lowByte (branchTarget next u.latch.dl)))
    (hfar : highByte (branchTarget next u.latch.dl) ≠ highByte next) :
    u.branchHigh.pc = branchTarget next u.latch.dl := by
  rw [Cpu.branchHigh, hpc, highByte_join, lowByte_join, branchHigh_target next u.latch.dl hfar, join_highByte_lowByte]

/-- Settles O30: pattern `REL`, by whether the condition holds and whether the target is in another page. -/
theorem branches : Obligations.Branches := by
  intro p hp
  refine InstrEnsures.tableRow (m := { cycles := patRel, cond := fun r => p.2.2 r.p })
    (by fin_cases hp <;> exact ⟨rfl, rfl⟩) rfl fun s op => ?_
  rw [addr_add_two]
  refine rowsEnsure_branchTest (fun hcond d t h => ?notTaken) fun hcond d =>
    rowsEnsure_branchTake (next := s.cpu.pc + 1#16 + 1#16) (target := s.cpu.pc + 1#16 + 1#16 + d.signExtend 16)
      rfl rfl (fun hpage x t h => ?samePage) fun hpage x y t h => ?otherPage
  case notTaken =>
    have htaken : ¬p.2.2 s.cpu.regs.p = true := by simpa using hcond
    refine ⟨t, op, d, 0#8, 0#8, h.exec_eq, ?_, ?_, h.regs, ?_, h.memorySame rfl⟩
    · rw [if_neg htaken, if_neg fun hboth => htaken hboth.1]; exact h.runs
    · rw [if_neg htaken]; exact h.pc
    · rw [if_neg htaken]; exact h.latch
  case samePage =>
    have htaken : p.2.2 s.cpu.regs.p = true := hcond
    refine ⟨t, op, d, x, 0#8, h.exec_eq, ?_, ?_, h.regs, ?_, h.memorySame rfl⟩
    · rw [if_pos htaken, if_neg fun hboth => hboth.2 hpage]; exact h.runs
    · rw [if_pos htaken]; exact h.pc
    · rw [if_pos htaken, decide_eq_false (not_not_intro hpage)]; exact h.latch
  case otherPage =>
    have htaken : p.2.2 s.cpu.regs.p = true := hcond
    refine ⟨t, op, d, x, y, h.exec_eq, ?_, ?_, h.regs, ?_, h.memorySame rfl⟩
    · rw [if_pos htaken, if_pos ⟨htaken, hpage⟩]; exact h.runs
    · rw [if_pos htaken]; exact h.pc.trans (branchHigh_pc rfl hpage)
    · rw [if_pos htaken, decide_eq_true hpage]; exact h.latch

/-! ## Stack -/

/-- Settles O31: pattern `PUSH` writes before `S` goes down, pattern `PULL` reads after it has gone up. -/
theorem stackInstructions : Obligations.StackInstructions := by
  refine ⟨rfl, ?status, fun p hp => ?push, fun p hp => ?pull⟩
  case status =>
    rintro ⟨n, v, d, i, z, c⟩
    revert n v d i z c
    decide
  case push =>
    refine InstrEnsures.tableRow (m := { cycles := patPush, val := p.2.2 })
      (by fin_cases hp <;> exact ⟨rfl, rfl⟩) rfl ?_
    intro s op d t h
    exact ⟨t, op, d, h.exec_eq, h.runs, h.regs, h.pc, h.latch, h.memoryWritten rfl⟩
  case pull =>
    refine InstrEnsures.tableRow (m := { cycles := patPull, exec := p.2.2 })
      (by fin_cases hp <;> exact ⟨rfl, rfl⟩) rfl ?_
    intro s op d e m t h
    exact ⟨t, op, d, e, m, h.exec_eq, h.runs, h.regs, h.pc, h.latch, h.memorySame rfl⟩

/-! ## Several bytes on the stack -/

theorem byte_sub_two (x : Byte) : x - 2#8 = x - 1#8 - 1#8 := by bv_omega

theorem byte_sub_three (x : Byte) : x - 3#8 = x - 1#8 - 1#8 - 1#8 := by bv_omega

theorem byte_add_two (x : Byte) : x + 2#8 = x + 1#8 + 1#8 := by bv_omega

theorem byte_add_three (x : Byte) : x + 3#8 = x + 1#8 + 1#8 + 1#8 := by bv_omega

theorem stackAddr_inj {k : Config} {x y : Byte} : stackAddr k x = stackAddr k y ↔ x = y := by
  rw [stackAddr, stackAddr, BitVec.add_right_inj]
  exact ⟨fun h => by bv_omega, fun h => h ▸ rfl⟩

/-- Three pushes in a row go to three addresses. -/
theorem nodup_stackAddr (k : Config) (x : Byte) :
    [stackAddr k x, stackAddr k (x - 1#8), stackAddr k (x - 1#8 - 1#8)].Nodup := by
  have h₁ : x ≠ x - 1#8 := by bv_omega
  have h₂ : x ≠ x - 1#8 - 1#8 := by bv_omega
  have h₃ : x - 1#8 ≠ x - 1#8 - 1#8 := by bv_omega
  simp [stackAddr_inj, h₁, h₂, h₃]

/-- An address that is read low byte first: the high byte of before does not matter (rules R155 to R157). -/
theorem join_lowByte_join (x hi lo : Byte) : join hi (lowByte (join x lo)) = join hi lo := by
  rw [lowByte_join]

/-- Settles O32: pattern `JSR` pushes while `PC` stands at its third byte, pattern `RTS` steps past the address pulled. -/
theorem subroutines : Obligations.Subroutines := by
  refine ⟨rfl, rfl, rfl, fun s => InstrEnsures.elim s (i := .jsr) rfl rfl ?jsr,
    fun s => InstrEnsures.elim s (i := .rts) rfl rfl ?rts⟩
  case jsr =>
    intro op lo d hi t h
    rw [addr_add_two, byte_sub_two]
    refine ⟨t, op, lo, d, hi, h.exec_eq, h.runs, h.regs, h.pc, h.latch, h.runs.makes.memoryWritten_once rfl ?_⟩
    exact (nodup_stackAddr s.cfg s.cpu.regs.s).sublist (by simp [stackAddr])
  case rts =>
    intro op d e lo hi x t h
    refine ⟨t, op, d, e, lo, hi, x, ?_⟩
    rw [byte_add_two, ← join_lowByte_join (highByte (s.cpu.pc + 1#16)) hi lo]
    exact ⟨h.exec_eq, h.runs, h.regs, h.pc, h.latch, h.memorySame rfl⟩

/-- Settles O33: pattern `RTI` pulls the flags and the two bytes of `PC`, and no tick of it increments `PC` after that. -/
theorem returnFromInterrupt : Obligations.ReturnFromInterrupt := by
  refine ⟨rfl, rfl, fun s => InstrEnsures.elim s (i := .rti) rfl rfl ?_⟩
  intro op d e b lo hi t h
  refine ⟨t, op, d, e, b, lo, hi, ?_⟩
  rw [byte_add_two, byte_add_three, ← join_lowByte_join (highByte (s.cpu.pc + 1#16)) hi lo]
  exact ⟨h.exec_eq, h.runs, h.regs, h.pc, h.latch, h.memorySame rfl⟩

/-- Settles O34: pattern `BRK` steps over one byte, pushes at three addresses and reads the vector. -/
theorem breakInstruction : Obligations.BreakInstruction := by
  refine ⟨rfl, rfl, rfl, fun s => InstrEnsures.elim s (i := .brk) rfl rfl ?_⟩
  intro op d lo hi t h
  refine ⟨t, op, d, lo, hi, ?_⟩
  rw [addr_add_two, byte_sub_two, byte_sub_three, ← join_lowByte_join (highByte (s.cpu.pc + 1#16 + 1#16)) hi lo]
  exact ⟨h.exec_eq, h.runs, h.regs, h.pc, h.latch,
    h.runs.makes.memoryWritten_once rfl (nodup_stackAddr s.cfg s.cpu.regs.s)⟩

/-! ## Jumps -/

/-- Settles O35: patterns `JMP_ABS` and `JMP_IND`, whose pointer's low byte alone is incremented. -/
theorem jumps : Obligations.Jumps := by
  refine ⟨rfl, rfl, fun s => InstrEnsures.elim s (i := .jmpAbs) rfl rfl ?absolute,
    fun s => InstrEnsures.elim s (i := .jmpInd) rfl rfl ?indirect⟩
  case absolute =>
    intro op lo hi t h
    rw [addr_add_two]
    exact ⟨t, op, lo, hi, h.exec_eq, h.runs, h.regs, h.pc, h.latch, h.memorySame rfl⟩
  case indirect =>
    intro op lo hi tl th t h
    rw [addr_add_two]
    exact ⟨t, op, lo, hi, tl, th, h.exec_eq, h.runs, h.regs, h.pc, h.latch, h.memorySame rfl⟩

end Sys2Proof.Machine
end

section
/-! SUPPORT. Addition, subtraction and comparison (obligations O42 to O46). Subtraction is addition of the complement;
decimal arithmetic is done digit by digit, where a correction turns a digit sum into a digit and a carry of 16. -/

namespace Sys2Proof.Machine

/-! ## What the operations leave in the registers -/

@[simp] theorem storeSum_a (r : Regs) (q : Sum) : (storeSum r q).a = q.r := rfl

@[simp] theorem storeSum_p (r : Regs) (q : Sum) :
    (storeSum r q).p = { r.p with c := q.c, v := q.v, n := q.n, z := q.z } := rfl

/-- An addition leaves `X`, `Y` and `S` as they are. -/
theorem storeSum_restore (r : Regs) (q : Sum) : { storeSum r q with a := r.a, p := r.p } = r := rfl

theorem opAdc_of_binary {r : Regs} (hd : r.p.d = false) (m : Byte) :
    opAdc r m = storeSum r (addBin r.a m r.p.c) := by
  simp [opAdc, hd]

theorem opAdc_of_decimal {r : Regs} (hd : r.p.d = true) (m : Byte) :
    opAdc r m = storeSum r (addDec r.a m r.p.c) := by
  simp [opAdc, hd]

/-- The flags of `SBC` do not depend on `D` (rule R213). -/
theorem opSbc_p (r : Regs) (m : Byte) :
    (opSbc r m).p = (storeSum r (addBin r.a (m ^^^ 0xFF#8) r.p.c)).p := rfl

theorem opSbc_a_of_binary {r : Regs} (hd : r.p.d = false) (m : Byte) :
    (opSbc r m).a = (addBin r.a (m ^^^ 0xFF#8) r.p.c).r := by
  simp [opSbc, hd]

theorem opSbc_a_of_decimal {r : Regs} (hd : r.p.d = true) (m : Byte) :
    (opSbc r m).a = subDecResult r.a m r.p.c := by
  simp [opSbc, hd]

/-! ## Bytes as signed numbers -/

theorem byte_msb_eq_decide (b : Byte) : b.msb = decide (128 ≤ b.toNat) := by
  simp [BitVec.msb_eq_decide]

theorem byte_toInt_eq (b : Byte) : b.toInt = if 128 ≤ b.toNat then (b.toNat : Int) - 256 else b.toNat := by
  rw [BitVec.toInt_eq_msb_cond, byte_msb_eq_decide]
  simp

/-- Bit 7 alone is not zero exactly when the sign is set. -/
theorem and_signBit_bne_zero (b : Byte) : (b &&& 0x80#8 != 0#8) = b.msb := by
  rw [show 0x80#8 = BitVec.twoPow 8 7 from rfl, BitVec.and_twoPow, BitVec.msb_eq_getLsbD_last]
  cases b.getLsbD 7 <;> rfl

theorem signedOverflow_eq_msb (a m r : Byte) :
    signedOverflow a m r = ((a.msb ^^ r.msb) && (m.msb ^^ r.msb)) := by
  rw [signedOverflow, and_signBit_bne_zero, BitVec.msb_and, BitVec.msb_xor, BitVec.msb_xor]

/-- The equivalence that rule R211 states for `V`. -/
theorem signedOverflow_sum (a m : Byte) (c : Bool) :
    signedOverflow a m (BitVec.ofNat 8 (a.toNat + m.toNat + c.toNat)) =
      outsideSigned (a.toInt + m.toInt + c.toNat) := by
  have hc := c.toNat_le
  have ha := a.isLt
  have hm := m.isLt
  simp only [signedOverflow_eq_msb, byte_msb_eq_decide, BitVec.toNat_ofNat, outsideSigned, byte_toInt_eq]
  rw [Bool.eq_iff_iff]
  by_cases hna : 128 ≤ a.toNat <;> by_cases hnm : 128 ≤ m.toNat <;> simp [hna, hnm] <;> omega

/-! ## Binary addition and subtraction -/

theorem byte_ofNat_mod (n : Nat) : BitVec.ofNat 8 (n % 256) = BitVec.ofNat 8 n :=
  BitVec.eq_of_toNat_eq (by simp)

theorem byte_ofNat_beq_zero (n : Nat) : (BitVec.ofNat 8 n == 0#8) = decide (n % 256 = 0) := by
  rw [Bool.eq_iff_iff]
  simp [BitVec.toNat_eq]

theorem byte_complement_toNat (m : Byte) : (m ^^^ 0xFF#8).toNat = 255 - m.toNat := by
  rw [show 0xFF#8 = BitVec.allOnes 8 from rfl, BitVec.xor_allOnes, BitVec.toNat_not]

theorem byte_complement_toInt (m : Byte) : (m ^^^ 0xFF#8).toInt = -m.toInt - 1 := by
  have hm := m.isLt
  rw [byte_toInt_eq, byte_toInt_eq, byte_complement_toNat]
  split <;> split <;> omega

/-- The borrow that `SBC` takes: the carry flag is not-borrow (rule R213). -/
def borrowOf (c : Bool) : Int := if c then 0 else 1

theorem borrowOf_eq (c : Bool) : borrowOf c = 1 - c.toNat := by
  cases c <;> rfl

/-- Adding the complement and the carry subtracts the operand and the borrow: the sum is 256 more (rule R213). -/
theorem complement_sum (a m : Byte) (c : Bool) :
    ((a.toNat + (m ^^^ 0xFF#8).toNat + c.toNat : Nat) : Int) = a.toNat - m.toNat - borrowOf c + 256 := by
  have hm := m.isLt
  rw [byte_complement_toNat, borrowOf_eq]
  omega

theorem byte_ofInt_add_modulus (n : Int) : BitVec.ofInt 8 (n + 256) = BitVec.ofInt 8 n :=
  BitVec.eq_of_toNat_eq (by simp)

theorem addBin_complement_r (a m : Byte) (c : Bool) :
    (addBin a (m ^^^ 0xFF#8) c).r = BitVec.ofInt 8 (a.toNat - m.toNat - borrowOf c) := by
  rw [← byte_ofInt_add_modulus, ← complement_sum, BitVec.ofInt_natCast]
  rfl

theorem addBin_complement_c (a m : Byte) (c : Bool) :
    (addBin a (m ^^^ 0xFF#8) c).c = decide (0 ≤ (a.toNat : Int) - m.toNat - borrowOf c) := by
  have h := complement_sum a m c
  exact decide_eq_decide.mpr (by omega)

theorem addBin_complement_v (a m : Byte) (c : Bool) :
    (addBin a (m ^^^ 0xFF#8) c).v = outsideSigned (a.toInt - m.toInt - borrowOf c) := by
  refine (signedOverflow_sum a (m ^^^ 0xFF#8) c).trans (congrArg outsideSigned ?_)
  rw [byte_complement_toInt, borrowOf_eq]
  omega

/-- Settles O42: the sum's own flags are those of the statement, but for `V`, which rule R211's equivalence gives. -/
theorem adcBinary : Obligations.AdcBinary := by
  intro r m hd n b
  have hb : b = BitVec.ofNat 8 n := byte_ofNat_mod n
  have hv : signedOverflow r.a m b = outsideSigned (r.a.toInt + m.toInt + r.p.c.toNat) :=
    hb ▸ signedOverflow_sum r.a m r.p.c
  refine ⟨?_, hv⟩
  rw [opAdc_of_binary hd, ← hv, ← byte_ofNat_beq_zero n, hb]
  rfl

/-- Settles O44: the flags and the binary result are those of adding the complement of the operand. -/
theorem sbcFlagsAndBinary : Obligations.SbcFlagsAndBinary := by
  intro r m borrow n b
  have hr : (addBin r.a (m ^^^ 0xFF#8) r.p.c).r = b := addBin_complement_r r.a m r.p.c
  refine ⟨?flags, fun hd => (opSbc_a_of_binary hd m).trans hr, storeSum_restore r _⟩
  rw [opSbc_p, storeSum_p, addBin_complement_c, addBin_complement_v, ← hr]
  rfl

/-! ## Decimal digits -/

theorem validBcd_iff {b : Byte} : validBcd b = true ↔ b.toNat / 16 < 10 ∧ b.toNat % 16 < 10 := by
  simp [validBcd]

/-- A byte put together from two decimal digits is valid and has their value. -/
theorem bcd_of_digits {b : Byte} {high low : Nat} (hb : b.toNat = 16 * high + low)
    (hhigh : high < 10) (hlow : low < 10) :
    validBcd b = true ∧ bcdValue b = 10 * high + low := by
  rw [validBcd_iff, bcdValue]
  omega

/-! ## Decimal addition -/

/-- The sum of the low digits and the carry. -/
def lowDigitSum (a m : Byte) (c : Bool) : Nat :=
  a.toNat % 16 + m.toNat % 16 + c.toNat

/-- The sum of the high digits and the carry of the low ones. -/
def highDigitSum (a m : Byte) (c : Bool) : Nat :=
  a.toNat / 16 + m.toNat / 16 + lowDigitSum a m c / 10

/-- The correction of the low digit sum leaves the digit and a carry of 16 (rule R212). -/
theorem correctLow_add {x : Nat} (hx : x < 20) :
    (if 0x0A ≤ x then (x + 0x06) % 16 + 0x10 else x) = 16 * (x / 10) + x % 10 := by
  split <;> omega

/-- The correction of the high digit sum leaves the digit and a carry of 256 (rule R212). -/
theorem correctHigh_add {h l : Nat} (hh : h < 20) (hl : l < 10) :
    (if 0xA0 ≤ 16 * h + l then 16 * h + l + 0x60 else 16 * h + l) = 256 * (h / 10) + 16 * (h % 10) + l := by
  split <;> omega

/-- The digit sums make up the decimal sum. -/
theorem bcdValue_sum (a m : Byte) (c : Bool) :
    bcdValue a + bcdValue m + c.toNat = 10 * highDigitSum a m c + lowDigitSum a m c % 10 := by
  rw [highDigitSum, lowDigitSum, bcdValue, bcdValue]
  omega

section
variable {a m : Byte} (ha : validBcd a = true) (hm : validBcd m = true) (c : Bool)
include ha hm

theorem lowDigitSum_lt : lowDigitSum a m c < 20 := by
  have hc := c.toNat_le
  rw [validBcd_iff] at ha hm
  rw [lowDigitSum]
  omega

theorem highDigitSum_lt : highDigitSum a m c < 20 := by
  have hlow := lowDigitSum_lt ha hm c
  rw [validBcd_iff] at ha hm
  rw [highDigitSum]
  omega

/-- `add_dec` of valid bytes, before its result is cut to a byte: each digit of the decimal sum in its place. -/
theorem addDec_of_valid :
    let t := 256 * (highDigitSum a m c / 10) + 16 * (highDigitSum a m c % 10) + lowDigitSum a m c % 10
    (addDec a m c).r = BitVec.ofNat 8 t ∧ (addDec a m c).c = decide (256 ≤ t) := by
  have hlow := correctLow_add (lowDigitSum_lt ha hm c)
  have hhigh := correctHigh_add (highDigitSum_lt ha hm c) (Nat.mod_lt (lowDigitSum a m c) (by decide))
  have hs : a.toNat / 16 * 16 + m.toNat / 16 * 16 + (16 * (lowDigitSum a m c / 10) + lowDigitSum a m c % 10) =
      16 * highDigitSum a m c + lowDigitSum a m c % 10 := by
    rw [highDigitSum]; omega
  rw [← hhigh, ← hs, ← hlow]
  exact ⟨rfl, rfl⟩

theorem addDec_r_toNat :
    (addDec a m c).r.toNat = 16 * (highDigitSum a m c % 10) + lowDigitSum a m c % 10 := by
  rw [(addDec_of_valid ha hm c).1, BitVec.toNat_ofNat]
  omega

theorem addDec_c : (addDec a m c).c = decide (100 ≤ bcdValue a + bcdValue m + c.toNat) := by
  rw [(addDec_of_valid ha hm c).2, bcdValue_sum]
  exact decide_eq_decide.mpr (by omega)

end

/-- Settles O43: the digits of the result are those of the two digit sums. -/
theorem adcDecimal : Obligations.AdcDecimal := by
  intro r m hd ha hm n
  rw [opAdc_of_decimal hd, storeSum_a, storeSum_p]
  obtain ⟨hvalid, hvalue⟩ := bcd_of_digits (addDec_r_toNat ha hm r.p.c)
    (Nat.mod_lt _ (by decide)) (Nat.mod_lt _ (by decide))
  refine ⟨hvalid, ?value, addDec_c ha hm r.p.c, rfl⟩
  rw [hvalue, show n = _ from bcdValue_sum r.a m r.p.c]
  omega

/-! ## Decimal subtraction -/

/-- The difference of the low digits and the borrow. -/
def lowDigitDiff (a m : Byte) (c : Bool) : Int :=
  (a.toNat % 16 : Nat) - (m.toNat % 16 : Nat) - borrowOf c

/-- The difference of the high digits and the borrow of the low ones, which is -1 or 0. -/
def highDigitDiff (a m : Byte) (c : Bool) : Int :=
  (a.toNat / 16 : Nat) - (m.toNat / 16 : Nat) + lowDigitDiff a m c / 10

/-- The correction of the low digit difference leaves the digit and a borrow of 16 (rule R214). -/
theorem correctLow_sub {x : Int} (hx : -10 ≤ x ∧ x < 10) :
    (if x < 0 then (x - 6) % 16 - 0x10 else x) = 16 * (x / 10) + x % 10 := by
  split <;> omega

/-- The correction of the high digit difference leaves the digit and a borrow of 256 (rule R214). -/
theorem correctHigh_sub {h l : Int} (hh : -10 ≤ h ∧ h < 10) (hl : 0 ≤ l ∧ l < 10) :
    (if 16 * h + l < 0 then 16 * h + l - 0x60 else 16 * h + l) = 256 * (h / 10) + 16 * (h % 10) + l := by
  split <;> omega

/-- The digit differences make up the decimal difference. -/
theorem bcdValue_diff (a m : Byte) (c : Bool) :
    (bcdValue a : Int) - bcdValue m - borrowOf c = 10 * highDigitDiff a m c + lowDigitDiff a m c % 10 := by
  rw [highDigitDiff, lowDigitDiff, bcdValue, bcdValue]
  omega

section
variable {a m : Byte} (ha : validBcd a = true) (hm : validBcd m = true) (c : Bool)
include ha hm

theorem lowDigitDiff_bounds : -10 ≤ lowDigitDiff a m c ∧ lowDigitDiff a m c < 10 := by
  have hc := c.toNat_le
  rw [validBcd_iff] at ha hm
  rw [lowDigitDiff, borrowOf_eq]
  omega

theorem highDigitDiff_bounds : -10 ≤ highDigitDiff a m c ∧ highDigitDiff a m c < 10 := by
  have hlow := lowDigitDiff_bounds ha hm c
  rw [validBcd_iff] at ha hm
  rw [highDigitDiff]
  omega

/-- `sub_dec_result` of valid bytes: each digit of the decimal difference in its place. -/
theorem subDecResult_of_valid :
    subDecResult a m c = BitVec.ofInt 8
      (256 * (highDigitDiff a m c / 10) + 16 * (highDigitDiff a m c % 10) + lowDigitDiff a m c % 10) := by
  have hlow := correctLow_sub (lowDigitDiff_bounds ha hm c)
  have hhigh := correctHigh_sub (highDigitDiff_bounds ha hm c) (l := lowDigitDiff a m c % 10) (by omega)
  have hs : ((a.toNat / 16 * 16 : Nat) : Int) - (m.toNat / 16 * 16 : Nat) +
      (16 * (lowDigitDiff a m c / 10) + lowDigitDiff a m c % 10) =
      16 * highDigitDiff a m c + lowDigitDiff a m c % 10 := by
    rw [highDigitDiff]; omega
  have hdiff : ((a.toNat % 16 : Nat) : Int) - (m.toNat % 16 : Nat) + (c.toNat : Nat) - 1 = lowDigitDiff a m c := by
    rw [lowDigitDiff, borrowOf_eq]; omega
  rw [← hhigh, ← hs, ← hlow, ← hdiff]
  rfl

theorem subDecResult_toNat :
    (subDecResult a m c).toNat = 16 * (highDigitDiff a m c % 10).toNat + (lowDigitDiff a m c % 10).toNat := by
  rw [subDecResult_of_valid ha hm c, BitVec.toNat_ofInt]
  omega

end

/-- Valid bytes are in the order of their decimal values, so the binary difference borrows exactly when the decimal one
does (rule R214). -/
theorem bcdValue_diff_nonneg_iff {a m : Byte} (ha : validBcd a = true) (hm : validBcd m = true) (c : Bool) :
    0 ≤ (a.toNat : Int) - m.toNat - borrowOf c ↔ 0 ≤ (bcdValue a : Int) - bcdValue m - borrowOf c := by
  have hc := c.toNat_le
  rw [validBcd_iff] at ha hm
  rw [borrowOf_eq, bcdValue, bcdValue]
  omega

/-- Settles O45: the digits of the result are those of the two digit differences, and the binary borrow is the decimal
one. -/
theorem sbcDecimal : Obligations.SbcDecimal := by
  intro r m hd ha hm n
  rw [opSbc_a_of_decimal hd, opSbc_p, storeSum_p, addBin_complement_c]
  obtain ⟨hvalid, hvalue⟩ := bcd_of_digits (subDecResult_toNat ha hm r.p.c) (by omega) (by omega)
  refine ⟨hvalid, ?value, decide_eq_decide.mpr (bcdValue_diff_nonneg_iff ha hm r.p.c)⟩
  rw [hvalue, show n = _ from bcdValue_diff r.a m r.p.c]
  omega

/-! ## Comparison -/

/-- The flags of a comparison, as numbers (rule R215). -/
theorem compareFlags_eq (p : Flags) (x m : Byte) :
    compareFlags p x m = { p with
      c := decide (m.toNat ≤ x.toNat)
      z := decide (x = m)
      n := decide (128 ≤ (256 + x.toNat - m.toNat) % 256) } := by
  have hdiff : (x - m).toNat = (256 + x.toNat - m.toNat) % 256 := by
    have hm := m.isLt
    rw [BitVec.toNat_sub]
    omega
  rw [compareFlags, byte_msb_eq_decide, hdiff]
  rfl

/-- Settles O46: the three comparisons differ in the register alone. -/
theorem comparisons : Obligations.Comparisons := by
  intro r m q hq
  fin_cases hq <;> exact congrArg (fun p => { r with p := p }) (compareFlags_eq r.p _ m)

end Sys2Proof.Machine
end

section
/-! SUPPORT. Shifts and rotations by one bit (obligation O47). Where the two operands of an `or` share no bit it is a
sum, which gives the values; `ROL` and `ROR` rotate the nine-bit word of carry and byte, which gives the laws of rule
R246. -/

namespace Sys2Proof.Machine

/-! ## Bits of a byte -/

theorem byte_getLsbD_seven_eq_decide (b : Byte) : b.getLsbD 7 = decide (128 ≤ b.toNat) :=
  (BitVec.msb_eq_getLsbD_last b).symm.trans (byte_msb_eq_decide b)

theorem byte_getLsbD_zero_eq_decide (b : Byte) : b.getLsbD 0 = decide (b.toNat % 2 = 1) :=
  Nat.testBit_zero b.toNat

theorem bitByte_getLsbD {pos : Nat} (hpos : pos < 8) (b : Bool) (i : Nat) :
    (bitByte pos b).getLsbD i = (decide (i = pos) && b) := by
  cases b with
  | false => simp [bitByte]
  | true => simp [bitByte, ← BitVec.twoPow_eq, BitVec.getLsbD_twoPow, hpos, eq_comm]

theorem bitByte_toNat {pos : Nat} (hpos : pos < 8) (b : Bool) : (bitByte pos b).toNat = b.toNat * 2 ^ pos := by
  cases b with
  | false => simp [bitByte]
  | true => simp [bitByte, ← BitVec.twoPow_eq, BitVec.toNat_twoPow_of_lt hpos]

/-- A byte whose bit `pos` is 0 takes a bit there as a sum. -/
theorem or_bitByte_toNat {v : Byte} {pos : Nat} (hpos : pos < 8) (hv : v.getLsbD pos = false) (b : Bool)
    (hlt : v.toNat + b.toNat * 2 ^ pos < 256) : (v ||| bitByte pos b).toNat = v.toNat + b.toNat * 2 ^ pos := by
  have hdisjoint : v &&& bitByte pos b = 0#8 := by
    apply BitVec.eq_of_getLsbD_eq
    intro i _
    rw [BitVec.getLsbD_and, bitByte_getLsbD hpos, BitVec.getLsbD_zero]
    by_cases h : i = pos <;> simp [h, hv]
  rw [← BitVec.add_eq_or_of_and_eq_zero _ _ hdisjoint, BitVec.toNat_add, bitByte_toNat hpos, Nat.mod_eq_of_lt hlt]

theorem byte_shiftLeft_one_toNat (v : Byte) : (v <<< 1).toNat = v.toNat * 2 % 256 := by
  rw [BitVec.toNat_shiftLeft, Nat.shiftLeft_eq]

theorem byte_shiftRight_one_toNat (v : Byte) : (v >>> 1).toNat = v.toNat / 2 := by
  rw [BitVec.toNat_ushiftRight, Nat.shiftRight_eq_div_pow]

/-! ## Values and flags -/

theorem rotateLeft_toNat (p : Flags) (v : Byte) :
    (rotateLeft p v).1.toNat = v.toNat * 2 % 256 + p.c.toNat := by
  have hc := p.c.toNat_le
  have hr := byte_shiftLeft_one_toNat v
  have h := or_bitByte_toNat (pos := 0) (by decide) (v := v <<< 1) (by simp) p.c (by omega)
  rwa [hr, pow_zero, Nat.mul_one] at h

theorem rotateRight_toNat (p : Flags) (v : Byte) :
    (rotateRight p v).1.toNat = v.toNat / 2 + p.c.toNat * 128 := by
  have hc := p.c.toNat_le
  have hv := v.isLt
  have hr := byte_shiftRight_one_toNat v
  have h := or_bitByte_toNat (pos := 7) (by decide) (v := v >>> 1) (by simp) p.c (by omega)
  rwa [hr] at h

/-- `N` and `Z` are those of the result, and `V`, `D` and `I` stay (rules R244 to R247). -/
theorem shift_flags {f : Flags → Byte → Byte × Flags} (hf : f ∈ [shiftLeft, shiftRight, rotateLeft, rotateRight])
    (p : Flags) (v : Byte) : (f p v).2 = { p with n := (f p v).1.msb, z := (f p v).1 == 0#8, c := (f p v).2.c } := by
  simp only [List.mem_cons, List.not_mem_nil, or_false] at hf
  obtain rfl | rfl | rfl | rfl := hf
  case inr.inl => simp [shiftRight]
  all_goals rfl

/-! ## The bits of a rotated byte -/

theorem rotateLeft_getLsbD (p : Flags) (v : Byte) {i : Nat} (hi : i < 8) :
    (rotateLeft p v).1.getLsbD i = if i = 0 then p.c else v.getLsbD (i - 1) := by
  simp only [rotateLeft, BitVec.getLsbD_or, BitVec.getLsbD_shiftLeft, bitByte_getLsbD (pos := 0) (by decide)]
  by_cases hzero : i = 0 <;> simp [hzero, hi]

theorem rotateRight_getLsbD (p : Flags) (v : Byte) (i : Nat) :
    (rotateRight p v).1.getLsbD i = if i = 7 then p.c else v.getLsbD (i + 1) := by
  simp only [rotateRight, BitVec.getLsbD_or, BitVec.getLsbD_ushiftRight, bitByte_getLsbD (pos := 7) (by decide)]
  by_cases hseven : i = 7 <;> simp [hseven, Nat.add_comm]

/-! ## Rotations of nine bits -/

/-- A rotation to the left brings each bit from `n` places below, around the nine. -/
theorem nineBits_rotateLeft_getLsbD (w : BitVec 9) (n : Nat) {i : Nat} (hi : i < 9) :
    (w.rotateLeft n).getLsbD i = w.getLsbD ((i + 9 - n % 9) % 9) := by
  rw [BitVec.getLsbD_rotateLeft]
  by_cases hn : i < n % 9
  · simp only [hn, decide_true, cond_true]
    exact congrArg w.getLsbD (by omega)
  · simp only [hn, hi, decide_true, decide_false, cond_false, Bool.true_and]
    exact congrArg w.getLsbD (by omega)

/-- A rotation to the right brings each bit from `n` places above, around the nine. -/
theorem nineBits_rotateRight_getLsbD (w : BitVec 9) (n : Nat) {i : Nat} (hi : i < 9) :
    (w.rotateRight n).getLsbD i = w.getLsbD ((i + n) % 9) := by
  rw [BitVec.getLsbD_rotateRight]
  by_cases hn : i < 9 - n % 9
  · simp only [hn, decide_true, cond_true]
    exact congrArg w.getLsbD (by omega)
  · simp only [hn, hi, decide_true, decide_false, cond_false, Bool.true_and]
    exact congrArg w.getLsbD (by omega)

theorem nineBits_rotateRight_rotateLeft_one (w : BitVec 9) : (w.rotateLeft 1).rotateRight 1 = w := by
  apply BitVec.eq_of_getLsbD_eq
  intro i hi
  rw [nineBits_rotateRight_getLsbD _ 1 hi, nineBits_rotateLeft_getLsbD _ 1 (Nat.mod_lt _ (by decide))]
  exact congrArg w.getLsbD (by omega)

theorem nineBits_rotateLeft_succ (w : BitVec 9) (n : Nat) : w.rotateLeft (n + 1) = (w.rotateLeft n).rotateLeft 1 := by
  apply BitVec.eq_of_getLsbD_eq
  intro i hi
  rw [nineBits_rotateLeft_getLsbD _ (n + 1) hi, nineBits_rotateLeft_getLsbD _ 1 hi,
    nineBits_rotateLeft_getLsbD _ n (Nat.mod_lt _ (by decide))]
  exact congrArg w.getLsbD (by omega)

theorem nineBits_rotateLeft_of_mod_eq_zero (w : BitVec 9) {n : Nat} (hn : n % 9 = 0) : w.rotateLeft n = w := by
  apply BitVec.eq_of_getLsbD_eq
  intro i hi
  rw [nineBits_rotateLeft_getLsbD _ n hi]
  exact congrArg w.getLsbD (by omega)

theorem nineBits_rotateLeft_one_iterate (w : BitVec 9) (n : Nat) :
    (fun x => x.rotateLeft 1)^[n] w = w.rotateLeft n := by
  induction n with
  | zero => exact (nineBits_rotateLeft_of_mod_eq_zero w rfl).symm
  | succ n ih => rw [Function.iterate_succ_apply', ih, nineBits_rotateLeft_succ w n]

/-! ## The nine bits of carry and byte -/

/-- `{C, v}` of rule R246: the carry above the byte. -/
def carryWord (x : Byte × Flags) : BitVec 9 := .cons x.2.c x.1

theorem carryWord_eq_iff {x y : Byte × Flags} : carryWord x = carryWord y ↔ x.1 = y.1 ∧ x.2.c = y.2.c := by
  refine ⟨fun h => ⟨?byte, ?carry⟩, fun ⟨hbyte, hcarry⟩ => by rw [carryWord, carryWord, hbyte, hcarry]⟩
  case byte => simpa [carryWord] using congrArg (BitVec.setWidth 8) h
  case carry => simpa [carryWord] using congrArg BitVec.msb h

theorem carryWord_getLsbD (x : Byte × Flags) (i : Nat) :
    (carryWord x).getLsbD i = if i = 8 then x.2.c else x.1.getLsbD i :=
  BitVec.getLsbD_cons x.2.c x.1 i

theorem carryWord_rotateLeft (p : Flags) (v : Byte) :
    carryWord (rotateLeft p v) = (carryWord (v, p)).rotateLeft 1 := by
  apply BitVec.eq_of_getLsbD_eq
  intro i hi
  rw [nineBits_rotateLeft_getLsbD _ 1 hi, carryWord_getLsbD, carryWord_getLsbD]
  by_cases hcarry : i = 8
  · subst hcarry
    rfl
  rw [if_neg hcarry, rotateLeft_getLsbD p v (by omega)]
  by_cases hzero : i = 0
  · subst hzero
    rfl
  · rw [show (i + 9 - 1 % 9) % 9 = i - 1 by omega, if_neg hzero, if_neg (by omega)]

theorem carryWord_rotateRight (p : Flags) (v : Byte) :
    carryWord (rotateRight p v) = (carryWord (v, p)).rotateRight 1 := by
  apply BitVec.eq_of_getLsbD_eq
  intro i hi
  rw [nineBits_rotateRight_getLsbD _ 1 hi, carryWord_getLsbD, carryWord_getLsbD]
  by_cases hcarry : i = 8
  · subst hcarry
    rfl
  rw [if_neg hcarry, rotateRight_getLsbD p v i]
  by_cases hseven : i = 7
  · subst hseven
    rfl
  · rw [show (i + 1) % 9 = i + 1 by omega, if_neg hseven, if_neg (by omega)]

/-- `ROL` of a byte with its flags is the rotation of the nine bits, so its iterates are too. -/
theorem semiconj_carryWord :
    Function.Semiconj carryWord (fun x => rotateLeft x.2 x.1) (fun w => w.rotateLeft 1) :=
  fun x => carryWord_rotateLeft x.2 x.1

/-- Rule R246: nine `ROL`s turn the nine bits back. -/
theorem carryWord_rotateLeft_nine (x : Byte × Flags) :
    carryWord ((fun y : Byte × Flags => rotateLeft y.2 y.1)^[9] x) = carryWord x := by
  rw [(semiconj_carryWord.iterate_right 9).eq, nineBits_rotateLeft_one_iterate,
    nineBits_rotateLeft_of_mod_eq_zero _ rfl]

theorem carryWord_rotateRight_rotateLeft (p : Flags) (v : Byte) :
    carryWord (rotateRight (rotateLeft p v).2 (rotateLeft p v).1) = carryWord (v, p) := by
  rw [carryWord_rotateRight, carryWord_rotateLeft, nineBits_rotateRight_rotateLeft_one]

/-- Settles O47: the values and flags operation by operation, the two laws on the nine bits of carry and byte. -/
theorem shiftsAndRotates : Obligations.ShiftsAndRotates := by
  refine ⟨fun p v => ?operations, fun p v => ?undo, fun p v => ?nine⟩
  case operations =>
    have hleft := byte_getLsbD_seven_eq_decide v
    have hright := byte_getLsbD_zero_eq_decide v
    exact ⟨⟨byte_shiftLeft_one_toNat v, hleft⟩, ⟨rotateLeft_toNat p v, hleft⟩, ⟨byte_shiftRight_one_toNat v, hright⟩,
      ⟨rotateRight_toNat p v, hright⟩, fun f hf => shift_flags hf p v⟩
  case undo => exact carryWord_eq_iff.mp (carryWord_rotateRight_rotateLeft p v)
  case nine => exact carryWord_eq_iff.mp (carryWord_rotateLeft_nine (v, p))

end Sys2Proof.Machine
end

section
/-! SUPPORT. Undefined opcodes (obligations O12, O36, O37, O38): the class of an undefined opcode, the illegal-instruction
condition raised in T1 and over the rows of a pattern, and the one tick of a halted core. -/

namespace Sys2Proof.Machine

/-! ## The configuration -/

/-- Settles O12: a step makes a trace of transactions, or is a tick of a halted core; both keep the configuration. -/
theorem configurationConstant : Obligations.ConfigurationConstant := by
  intro s t h
  obtain ⟨tr, hmakes⟩ | ⟨-, -, -, -, -, hcfg, -⟩ := makesTrace_or_staysHalted_of_step h
  · exact hmakes.cfg_eq
  · exact hcfg

/-! ## The class of an undefined opcode -/

/-- An instruction without a pattern of its own runs what the class of its opcode says (rule R300). -/
theorem exec_of_undefined {i : Instr} (hi : definedMicro i = none) (s : State) :
    exec i s = runClass (encodeOpcode i) s (undefinedClass s.cfg (encodeOpcode i)) := by
  rw [exec_eq, hi, ← runUndefined_eq]
  rfl

theorem undefinedClass_of_illegal {c : Config} {op : Byte} (h : c.pseudoOpcodes.contains op = false) :
    undefinedClass c op = .illegal := by
  rw [undefinedClass, h]
  rfl

theorem undefinedClass_of_entry {c : Config} {op : Byte} {e : PseudoEntry} (h : c.pseudoOpcodes.contains op = true)
    (he : c.pseudoTable.find? (fun e => e.op == op) = some e) : undefinedClass c op = .pattern (pseudoMicro e) := by
  simp only [undefinedClass, h, he, if_true]

theorem undefinedClass_of_no_entry {c : Config} {op : Byte} (h : c.pseudoOpcodes.contains op = true)
    (he : c.pseudoTable.find? (fun e => e.op == op) = none) : undefinedClass c op = .missing := by
  simp only [undefinedClass, h, he, if_true]

/-- A well-formed configuration has a complete entry for every opcode of class `Pseudo` (rule R302). -/
theorem exists_complete_entry {c : Config} {op : Byte} (hwf : c.wellFormed = true)
    (h : c.pseudoOpcodes.contains op = true) :
    ∃ e, c.pseudoTable.find? (fun e => e.op == op) = some e ∧ e.complete = true := by
  have hcomplete : c.pseudoComplete = true := by
    simp only [Config.wellFormed, Bool.and_eq_true] at hwf
    tauto
  have hop := List.all_eq_true.mp hcomplete op (List.contains_iff_mem.mp h)
  split at hop
  · next e he => exact ⟨e, he, hop⟩
  · cases hop

/-- A complete entry has no row that enters an interrupt sequence (rules R130, R302). -/
theorem not_isEntry_of_complete {e : PseudoEntry} (he : e.complete = true) {c : Cycle} (hc : c ∈ e.cycles) :
    c.isEntry = false := by
  simp only [PseudoEntry.complete, Bool.and_eq_true, List.all_eq_true, Bool.not_eq_true'] at he
  obtain ⟨⟨-, hentry⟩, -⟩ := he
  exact hentry c hc

/-! ## Class Illegal -/

/-- The illegal opcode `op` at the boundary `s` has raised its condition, `b` being the byte fetched: `PC` is one
further, and nothing else of the core has changed but `IR` and the phase (rules R301, R304). -/
structure RaisedIllegal (op b : Byte) (s t : State) : Prop where
  regs : t.cpu.regs = s.cpu.regs
  pc : t.cpu.pc = s.cpu.pc + 1#16
  latch : t.cpu.latch = { s.cpu.latch with ir := b }
  seqKind : t.cpu.seqKind = s.cpu.seqKind
  illegal : t.cpu.illegal = ⟨true, op, s.cpu.pc⟩

/-- T1 of an illegal opcode (rules R131, R301). -/
theorem raisedIllegal_of_fetch (action : IllegalAction) (op : Byte) (s : State) :
    ∃ b, RaisedIllegal op b s (turnWith (fetchWith (raiseIllegal action op)) s) ∧
      (turnWith (fetchWith (raiseIllegal action op)) s).cpu.phase = (raiseIllegal action op s.cpu).phase ∧
      Makes s (turnWith (fetchWith (raiseIllegal action op)) s) [rd s.cpu.pc b] := by
  obtain ⟨b, hcpu, -, hmakes⟩ := fetch_row (raiseIllegal action op) s
  refine ⟨b, ?_, by rw [hcpu]; rfl, hmakes⟩
  constructor <;> simp [hcpu, raiseIllegal]

/-- The tick after T1 changes nothing in the core but the phase, and is the last (rule R304). -/
theorem RaisedIllegal.implied_row {op b : Byte} {s t : State} (h : RaisedIllegal op b s t) :
    ∃ d, RaisedIllegal op b s (runCycles (.nothing []) .executeCycle 2 illegalCycles t) ∧
      (runCycles (.nothing []) .executeCycle 2 illegalCycles t).cpu.phase = .fetch ∧
      Makes t (runCycles (.nothing []) .executeCycle 2 illegalCycles t) [rd t.cpu.pc d] := by
  obtain ⟨d, v, hcpu, hmakes, hrun⟩ := run_read (.nothing []) .executeCycle 2 .implied [] t rfl
  rw [runCycles_nil, ite_self] at hrun
  rw [illegalCycles, hrun]
  refine ⟨d, ?_, by simp [hcpu, phaseAfter], by simpa [cycleAddr] using hmakes⟩
  constructor <;> simp [hcpu, cycleEffect, Micro.nothing, h.regs, h.pc, h.latch, h.seqKind, h.illegal]

/-- Under `NoOp` an illegal opcode is two reads and ends at the next boundary (rule R304). -/
theorem runIllegal_of_noOp (op : Byte) {s : State} (h : s.cfg.illegalAction = .noOp) :
    ∃ t b d, runIllegal op s = .next t ∧ Makes s t [rd s.cpu.pc b, rd (s.cpu.pc + 1#16) d] ∧ t.cpu.phase = .fetch ∧
      RaisedIllegal op b s t := by
  obtain ⟨b, hT1, -, hmakes⟩ := raisedIllegal_of_fetch .noOp op s
  obtain ⟨d, hraised, hphase, hmakes'⟩ := hT1.implied_row
  rw [hT1.pc] at hmakes'
  exact ⟨_, b, d, runIllegal_noOp h, hmakes.trans hmakes', hphase, hraised⟩

/-- Under `Halt` an illegal opcode is one read and leaves the core halted (rule R305). -/
theorem runIllegal_of_halt (op : Byte) {s : State} (h : s.cfg.illegalAction = .halt) :
    ∃ t b, runIllegal op s = .next t ∧ Makes s t [rd s.cpu.pc b] ∧ t.cpu.phase = .halted ∧ RaisedIllegal op b s t := by
  obtain ⟨b, hraised, hphase, hmakes⟩ := raisedIllegal_of_fetch .halt op s
  exact ⟨_, b, runIllegal_halt h, hmakes, hphase, hraised⟩

/-- Settles O36: each opcode of the list is undefined, so it runs by its class, and its transactions are reads. -/
theorem illegalOpcodes : Obligations.IllegalOpcodes := by
  intro p hp
  have hrow : decodeOpcode p.1 = p.2 ∧ definedMicro p.2 = none := by fin_cases hp <;> exact ⟨rfl, rfl⟩
  obtain ⟨hdecode, hundefined⟩ := hrow
  refine ⟨hdecode, fun s hclass => ?_⟩
  have hexec : exec p.2 s = runIllegal p.1 s := by
    rw [exec_of_undefined hundefined, ← hdecode, encodeOpcode_decodeOpcode, undefinedClass_of_illegal hclass]
    rfl
  rw [hexec]
  refine ⟨fun haction => ?noOp, fun haction => ?halt⟩
  case noOp =>
    obtain ⟨t, b, d, ht, hmakes, hphase, h⟩ := runIllegal_of_noOp p.1 haction
    exact ⟨t, b, d, ht, hmakes, hphase, h.regs, h.pc, h.latch, h.seqKind, h.illegal, hmakes.reads_same (by simp [rd])⟩
  case halt =>
    obtain ⟨t, b, ht, hmakes, hphase, h⟩ := runIllegal_of_halt p.1 haction
    exact ⟨t, b, ht, hmakes, hphase, h.regs, h.pc, h.latch, h.seqKind, h.illegal, hmakes.reads_same (by simp [rd])⟩

/-! ## Class Pseudo -/

@[simp] theorem pseudoMicro_cycles (e : PseudoEntry) : (pseudoMicro e).cycles = e.cycles := by
  unfold pseudoMicro
  split <;> rfl

/-- What every row of a list keeps of the illegal-instruction condition, a run of the rows keeps. -/
theorem runCycles_keeps_illegal {P : Illegal → Prop} {m : Micro} {mk : Nat → Phase} {rows : List Cycle} {n : Nat}
    {s : State} (hrow : ∀ c ∈ rows, ∀ b u, P u.illegal → P (cycleEffect m c b u).1.illegal) (h : P s.cpu.illegal) :
    P (runCycles m mk n rows s).cpu.illegal := by
  induction rows generalizing n s with
  | nil => exact h
  | cons c rest ih =>
    obtain ⟨hc, hrest⟩ := List.forall_mem_cons.mp hrow
    have hturn : P (turnWith (cycleAct m (phaseAfter mk n rest) c) s).cpu.illegal := by
      obtain ⟨b, -, hcpu, -⟩ := turn_row m (phaseAfter mk n rest) c s
      rw [hcpu, cycleCommit_illegal]
      exact hc b _ (by simpa using h)
    rw [runCycles]
    split
    · exact hturn
    · exact ih hrest hturn

/-- The same for a whole instruction: T1 of a pattern leaves the condition as it was. -/
theorem runMicro_keeps_illegal {P : Illegal → Prop} {m : Micro} {s : State}
    (hrow : ∀ c ∈ m.cycles, ∀ b u, P u.illegal → P (cycleEffect m c b u).1.illegal) (h : P s.cpu.illegal) :
    P (runMicro m s).cpu.illegal := by
  obtain ⟨b, hcpu, -⟩ := fetch_row (beginPattern m) s
  exact runCycles_keeps_illegal hrow (by simpa [hcpu, beginPattern] using h)

/-- No row raises the illegal-instruction condition: tick I1 of a RESET sequence clears it, and no other row touches it
(rules R34, R432). -/
theorem cycleEffect_illegal_flag {m : Micro} {c : Cycle} {b : Byte} {u : Cpu}
    (h : (cycleEffect m c b u).1.illegal.flag = true) : u.illegal.flag = true := by
  cases hentry : c.isEntry with
  | false => rwa [cycleEffect_illegal hentry] at h
  | true =>
    obtain ⟨k, rfl⟩ : ∃ k, c = .enter k := by
      cases c with
      | enter k => exact ⟨k, rfl⟩
      | _ => cases hentry
    cases k with
    | reset => cases h
    | nmi => exact h
    | irq => exact h

theorem runMicro_illegal_flag {m : Micro} {s : State} (h : (runMicro m s).cpu.illegal.flag = true) :
    s.cpu.illegal.flag = true :=
  runMicro_keeps_illegal (P := fun x => x.flag = true → s.cpu.illegal.flag = true)
    (fun _ _ _ _ hu hflag => hu (cycleEffect_illegal_flag hflag)) id h

theorem runMicro_illegal {m : Micro} (hentry : ∀ c ∈ m.cycles, c.isEntry = false) (s : State) :
    (runMicro m s).cpu.illegal = s.cpu.illegal :=
  runMicro_keeps_illegal (P := fun x => x = s.cpu.illegal)
    (fun c hc b u hu => (cycleEffect_illegal (hentry c hc) m b u).trans hu) rfl

theorem runMicro_cfg (m : Micro) (s : State) : (runMicro m s).cfg = s.cfg := by
  obtain ⟨tr, hmakes⟩ := makesTrace_runMicro m s
  exact hmakes.cfg_eq

/-- Settles O37: an entry runs as a pattern, of which no row raises the condition; a well-formed configuration has a
complete entry, so none is missing and no row of it touches the condition. -/
theorem pseudoOpcodes : Obligations.PseudoOpcodes := by
  intro i s hundefined hpseudo
  rw [exec_of_undefined hundefined]
  refine ⟨fun e he => ?entry, fun hnone => ?missing⟩
  case entry =>
    rw [undefinedClass_of_entry hpseudo he]
    refine ⟨_, rfl, rfl, runMicro_phase _ s, runMicro_cfg _ s, runMicro_illegal_flag, fun hwf => ?_⟩
    obtain ⟨e', he', hcomplete⟩ := exists_complete_entry hwf hpseudo
    obtain rfl : e = e' := Option.some.inj (he.symm.trans he')
    exact runMicro_illegal (fun c hc => not_isEntry_of_complete hcomplete (by simpa using hc)) s
  case missing =>
    rw [undefinedClass_of_no_entry hpseudo hnone]
    refine ⟨rfl, Bool.eq_false_iff.mpr fun hwf => ?_⟩
    obtain ⟨e, he, -⟩ := exists_complete_entry hwf hpseudo
    cases hnone.symm.trans he

/-! ## The halted core -/

/-- Of the chips' parts of a tick only those of the timing generator change it; with the divider 1 each of them is its
update (rules R70, R71). -/
theorem chipTurns_vtg {s : State} (ks : List Chip) (h : s.cfg.clockRates.vtg = 1) :
    (chipTurns ks s).vtg = vtgTicks s.cfg.vtg (ks.count .vtg) s.vtg := by
  induction ks generalizing s with
  | nil => rfl
  | cons k ks ih =>
    change (chipTurns ks (chipTurn s k)).vtg = _
    rw [ih (by simpa using h), chipTurn_cfg]
    cases k with
    | vtg => simp [chipTurn, acts, h, Nat.mod_one, vtgUpdate, vtgTicks]
    | mixer => simp only [chipTurn]; split <;> simp
    | ifChips => simp [chipTurn]
    | fdc => simp only [chipTurn]; split <;> simp

/-- A well-formed configuration updates the timing generator once in a tick (rules R13, R70). -/
theorem count_vtg_tickOrder {c : Config} (hwf : c.wellFormed = true) :
    (c.tickOrder.before ++ c.tickOrder.after).count .vtg = 1 := by
  have hsched : c.scheduleLegal = true := by
    simp only [Config.wellFormed, Bool.and_eq_true] at hwf
    tauto
  simp only [Config.scheduleLegal, Bool.and_eq_true, beq_iff_eq, List.all_eq_true, List.contains_iff_mem] at hsched
  obtain ⟨⟨⟨hlength, hchips⟩, -⟩, -⟩ := hsched
  have hperm : [Chip.vtg, .mixer, .ifChips, .fdc].Perm (c.tickOrder.before ++ c.tickOrder.after) :=
    (List.subperm_of_subset (by decide) hchips).perm_of_length_le hlength.le
  rw [← hperm.count_eq]
  rfl

/-- In a tick in which the core does nothing the timing generator goes on (rules R70, R305). -/
theorem tickWith_idle_vtg {s : State} (hwf : s.cfg.wellFormed = true) (h : s.cfg.clockRates.vtg = 1) :
    (tickWith (fun t => t) s).vtg = vtgTick s.cfg.vtg s.vtg := by
  have hturns : (tickWith (fun t => t) s).vtg =
      (chipTurns (s.cfg.tickOrder.before ++ s.cfg.tickOrder.after) (boundary s)).vtg := by
    have hafter : (beforeCore (boundary s)).cfg.tickOrder.after = s.cfg.tickOrder.after := by simp
    rw [tickWith, afterCore, driveLines_vtg, hafter, beforeCore, boundary_cfg, chipTurns, chipTurns, chipTurns,
      List.foldl_append]
  rw [hturns, chipTurns_vtg _ (by simpa using h), boundary_cfg, boundary_vtg, count_vtg_tickOrder hwf]
  rfl

theorem tickWith_idle_cpu (s : State) :
    (tickWith (fun t => t) s).cpu = { s.cpu with pend := (boundary s).cpu.pend } := by
  simp [tickWith]

theorem step_of_halted {s : State} (hwf : s.cfg.wellFormed = true) (hphase : s.cpu.phase = .halted) :
    step s = if (coreView s).cpu.pend.resetPending = true then .next (takeInterrupt .reset s)
      else .next (tickWith (fun t => t) s) := by
  simp only [step, hwf, if_true, stepRun, hphase, runHalted]

/-- Settles O38: without a RESET the step is a tick in which the core does nothing, so only the boundary and the other
chips change the state. -/
theorem haltedCore : Obligations.HaltedCore := by
  intro s hwf hphase
  rw [step_of_halted hwf hphase]
  refine ⟨fun hreset => if_pos hreset, fun hreset => ?_, fun hrate => ?_⟩
  · obtain ⟨-, -, htrace, hmem, hbanks, hcfg, htick⟩ := staysHalted_tickWith hphase
    exact ⟨_, if_neg (by simp [hreset]), htrace, hmem, hbanks, hcfg, tickWith_idle_cpu s, htick, tickWith_idle_vtg hwf⟩
  · rw [coreView, turnStart_undivided hrate, beforeCore_cpu]

end Sys2Proof.Machine
end

section
/-! SUPPORT. The timing generator's update (obligations O9, O51, O52): a tick inside a character period, a boundary that
goes on in the line, one that starts a line and one that starts a frame, and the ranges that all of them keep. -/

namespace Sys2Proof.Machine

/-! ## A tick by what it does -/

/-- The timing generator at a character-period boundary, the pending writes applied, before the counters step (rules
R314, R323). -/
def vtgLoaded (g : Vtg) : Vtg :=
  { g with charPhase := 0, reg := g.pending.foldl vtgApply g.reg, pending := [] }

theorem vtgTick_inside {c : VtgCfg} {g : Vtg} (h : g.charPhase + 1 < c.ticksPerChar) :
    vtgTick c g = { g with charPhase := g.charPhase + 1, lineStart := false, frameStart := false } :=
  if_pos h

theorem vtgTick_boundary {c : VtgCfg} {g : Vtg} (h : c.ticksPerChar ≤ g.charPhase + 1) :
    vtgTick c g = vtgOutputs (vtgAdvance c (vtgLoaded g)) :=
  if_neg (Nat.not_lt.mpr h)

/-- A boundary inside a line (rule R315). -/
theorem vtgAdvance_inLine (c : VtgCfg) {g : Vtg} (h : g.hcount + 1 < g.reg.hTotal) :
    vtgAdvance c g =
      { g with hcount := g.hcount + 1, ma := (g.ma + 1) % 2 ^ c.maBits, lineStart := false, frameStart := false } :=
  if_neg (by simpa [lineEnd] using h)

/-- The state at the start of a line whose row base and row address are `row` (rules R315, R317). -/
def vtgLineAt (row : Nat × Nat) (g : Vtg) : Vtg :=
  { g with hcount := 0, ma := row.1, rowBase := row.1, ra := row.2, lineStart := true }

/-- A boundary that ends a line inside a frame (rules R315, R317). -/
theorem vtgAdvance_newLine (c : VtgCfg) {g : Vtg} (h : g.reg.hTotal ≤ g.hcount + 1) (hv : g.vcount + 1 < g.reg.vTotal) :
    vtgAdvance c g = vtgLineAt (nextLinePolicy c g.reg g.rowBase g.ra g.field)
      { g with vcount := g.vcount + 1, frameStart := false } := by
  have hframe : frameEnd g.reg g.vcount = false := by simpa [frameEnd] using hv
  simp [vtgAdvance, lineEnd, h, hframe, vtgLineAt]

/-- A boundary that ends the last line of a frame (rules R315, R316). -/
theorem vtgAdvance_newFrame (c : VtgCfg) {g : Vtg} (h : g.reg.hTotal ≤ g.hcount + 1)
    (hv : g.reg.vTotal ≤ g.vcount + 1) :
    vtgAdvance c g = vtgLineAt (frameStartPolicy c g.reg !g.field)
      { g with vcount := 0, field := !g.field, frameStart := true } := by
  simp [vtgAdvance, lineEnd, h, frameEnd, hv, vtgLineAt]

/-! ## Ranges -/

theorem frameStartPolicy_lt (c : VtgCfg) (r : VtgRegs) (field : Bool) :
    (frameStartPolicy c r field).1 < 2 ^ c.maBits := by
  unfold frameStartPolicy
  split <;> exact Nat.mod_lt _ (Nat.two_pow_pos _)

theorem nextLinePolicy_lt (c : VtgCfg) (r : VtgRegs) {rowBase : Nat} (h : rowBase < 2 ^ c.maBits) (ra : Nat)
    (field : Bool) : (nextLinePolicy c r rowBase ra field).1 < 2 ^ c.maBits := by
  have hmod : ∀ n, n % 2 ^ c.maBits < 2 ^ c.maBits := fun n => Nat.mod_lt n (Nat.two_pow_pos _)
  unfold nextLinePolicy
  split
  · split
    · exact hmod _
    · exact h
  · split
    · exact hmod _
    · exact h
  · exact hmod _

theorem vtgInv_loaded {c : VtgCfg} {g : Vtg} (h : vtgInv c g) :
    0 < c.ticksPerChar ∧ c.widths.fits (vtgLoaded g).reg = true := by
  obtain ⟨hchar, -, -, -, hfits, hpending⟩ := h
  exact ⟨Nat.zero_lt_of_lt hchar, vtgApplies_fits hfits hpending⟩

/-- The start of a line is in range if its row base is (rules R310, R312). -/
theorem vtgInv_lineAt {c : VtgCfg} {row : Nat × Nat} {g : Vtg} (hchar : g.charPhase < c.ticksPerChar)
    (hrow : row.1 < 2 ^ c.maBits) (hfits : c.widths.fits g.reg = true) (hpending : g.pending = []) :
    vtgInv c (vtgLineAt row g) :=
  ⟨hchar, Nat.lt_of_lt_of_le Nat.one_pos (Nat.le_max_left _ _), hrow, hrow, hfits, by simp [vtgLineAt, hpending]⟩

theorem vtgInv_advance_loaded {c : VtgCfg} {g : Vtg} (h : vtgInv c g) : vtgInv c (vtgAdvance c (vtgLoaded g)) := by
  obtain ⟨hticks, hfits⟩ := vtgInv_loaded h
  obtain ⟨-, -, -, hrow, -, -⟩ := h
  by_cases hline : (vtgLoaded g).hcount + 1 < (vtgLoaded g).reg.hTotal
  · rw [vtgAdvance_inLine c hline]
    exact ⟨hticks, Nat.lt_of_lt_of_le hline (Nat.le_max_right _ _), Nat.mod_lt _ (Nat.two_pow_pos _), hrow, hfits,
      fun u hu => absurd hu List.not_mem_nil⟩
  · by_cases hframe : (vtgLoaded g).vcount + 1 < (vtgLoaded g).reg.vTotal
    · rw [vtgAdvance_newLine c (Nat.not_lt.mp hline) hframe]
      exact vtgInv_lineAt hticks (nextLinePolicy_lt c _ hrow _ _) hfits rfl
    · rw [vtgAdvance_newFrame c (Nat.not_lt.mp hline) (Nat.not_lt.mp hframe)]
      exact vtgInv_lineAt hticks (frameStartPolicy_lt c _ _) hfits rfl

/-- The update keeps the ranges, with the register set that is in force after it (rules R310, R312, R325). -/
theorem vtgInv_vtgTick {c : VtgCfg} {g : Vtg} (h : vtgInv c g) : vtgInv c (vtgTick c g) := by
  by_cases hchar : g.charPhase + 1 < c.ticksPerChar
  · obtain ⟨-, hrest⟩ := h
    rw [vtgTick_inside hchar]
    exact ⟨hchar, hrest⟩
  · rw [vtgTick_boundary (Nat.not_lt.mp hchar)]
    exact vtgInv_advance_loaded h

theorem vtgInv_vtgWrite {c : VtgCfg} {g : Vtg} (offset : Nat) (v : Byte) (h : vtgInv c g) :
    vtgInv c (vtgWrite c offset v g) := by
  obtain ⟨us, n, hwrite, hstaged⟩ := vtgWrite_stages c offset v g
  obtain ⟨hchar, hcount, hma, hrow, hfits, hpending⟩ := h
  rw [hwrite]
  refine ⟨hchar, hcount, hma, hrow, hfits, fun u hu => ?_⟩
  rcases List.mem_append.mp hu with hu | hu
  · exact hpending u hu
  · exact hstaged u hu

end Sys2Proof.Machine
end

section
/-! SUPPORT. Every step keeps the invariant (obligation O9): each part of the invariant over the operations that touch
it, the parts together over what a tick is made of, and the line bitset, which the drivers write last in a tick. -/

namespace Sys2Proof.Machine

/-! ## Images and drives -/

theorem diskFits_iff {c : DiskCfg} {g : Geometry} {i : Image} : c.fits g i = true ↔
    i.length = g.tracks ∧ ∀ t ∈ i, t.length = g.sectors ∧ ∀ x ∈ t, c.sectorFits x = true := by
  simp [DiskCfg.fits]

theorem sectorFits_iff {c : DiskCfg} {x : Sector} :
    c.sectorFits x = true ↔ x.payload.length = c.bytesPerSector ∧ x.crc < 2 ^ c.crcBits := by
  simp [DiskCfg.sectorFits]

theorem imageOf_eq_some {drives : List (Option Image)} {d : Nat} {i : Image} :
    imageOf drives d = some i ↔ drives[d]? = some (some i) :=
  Option.join_eq_some_iff

/-- Every drive that holds an image holds one of its geometry (rule R400), drive by drive. -/
theorem drivesInv_iff {c : DiskCfg} {drives : List (Option Image)} : drivesInv c drives ↔
    drives.length = c.geometry.length ∧
      ∀ (d : Nat) (g : Geometry) (i : Image), drives[d]? = some (some i) → c.geometry[d]? = some g →
        c.fits g i = true := by
  refine and_congr_right fun _ => ⟨fun h d g i hd hg => ?_, fun h p hp i hi => ?_⟩
  · exact h (some i, g) (List.mem_of_getElem? (List.getElem?_zip_eq_some.mpr ⟨hd, hg⟩)) i rfl
  · obtain ⟨d, hzip⟩ := List.getElem?_of_mem hp
    obtain ⟨hd, hg⟩ := List.getElem?_zip_eq_some.mp hzip
    exact h d p.2 i (hi ▸ hd) hg

/-- Changing one drive keeps the geometry of all if what it then holds has that of the drive (rules R400, R406). -/
theorem drivesInv_set {c : DiskCfg} {drives : List (Option Image)} {d : Nat} {x : Option Image}
    (h : drivesInv c drives) (hx : ∀ g i, c.geometry[d]? = some g → x = some i → c.fits g i = true) :
    drivesInv c (drives.set d x) := by
  obtain ⟨hlength, hfits⟩ := drivesInv_iff.mp h
  refine drivesInv_iff.mpr ⟨by simpa using hlength, fun n g i hn hg => ?_⟩
  rw [List.getElem?_set] at hn
  split at hn
  · next hdn =>
    subst hdn
    split at hn
    · exact hx g i hg (Option.some.inj hn)
    · cases hn
  · exact hfits n g i hn hg

theorem drivesInv_applyDriveEvent {c : DiskCfg} {drives : List (Option Image)} (h : drivesInv c drives)
    (e : DriveEvent) : drivesInv c (applyDriveEvent c drives e) := by
  cases e with
  | remove d => exact drivesInv_set h (by simp)
  | insert d i =>
    simp only [applyDriveEvent]
    split
    · next g hg =>
      split
      · next hi =>
        refine drivesInv_set h fun g' i' hg' hi' => ?_
        cases hg.symm.trans hg'
        cases hi'
        exact hi
      · exact h
    · exact h

theorem drivesInv_applyDriveEvents {c : DiskCfg} (es : List DriveEvent) {drives : List (Option Image)}
    (h : drivesInv c drives) : drivesInv c (es.foldl (applyDriveEvent c) drives) := by
  induction es generalizing drives with
  | nil => exact h
  | cons e es ih => exact ih (drivesInv_applyDriveEvent h e)

/-- A sector of the right size keeps the geometry of an image (rules R400, R402). -/
theorem fits_imageSet {c : DiskCfg} {g : Geometry} {i : Image} {x : Sector} (hi : c.fits g i = true)
    (hx : c.sectorFits x = true) (track sector : Nat) : c.fits g (imageSet i track sector x) = true := by
  by_cases hlt : track < i.length
  · obtain ⟨hlength, htracks⟩ := diskFits_iff.mp hi
    obtain ⟨hsectors, hfits⟩ := htracks _ (List.getElem_mem hlt)
    have hset : imageSet i track sector x = i.set track (i[track].set sector x) := by
      simp [imageSet, List.getD_eq_getElem?_getD, hlt]
    rw [hset]
    refine diskFits_iff.mpr ⟨by simpa using hlength, fun t ht => ?_⟩
    rcases List.mem_or_eq_of_mem_set ht with ht | rfl
    · exact htracks t ht
    · refine ⟨by simpa using hsectors, fun y hy => ?_⟩
      rcases List.mem_or_eq_of_mem_set hy with hy | rfl
      · exact hfits y hy
      · exact hx
  · rwa [imageSet, List.set_eq_of_length_le (Nat.not_lt.mp hlt)]

theorem drivesInv_writeSector {c : DiskCfg} {drives : List (Option Image)} (h : drivesInv c drives)
    (d track sector : Nat) (payload : List Byte) {crc : Nat} (hcrc : crc < 2 ^ c.crcBits) :
    drivesInv c (writeSector c drives d track sector payload crc).1 := by
  unfold writeSector
  split
  · exact h
  · next i hi =>
    split
    · next hplace =>
      obtain ⟨-, -, hpayload⟩ := hplace
      refine drivesInv_set h fun g i' hg hi' => ?_
      cases hi'
      obtain ⟨-, hfits⟩ := drivesInv_iff.mp h
      exact fits_imageSet (hfits d g i (imageOf_eq_some.mp hi) hg) (sectorFits_iff.mpr ⟨hpayload, hcrc⟩) track sector
    · exact h

theorem drivesInv_writeSectors {c : DiskCfg} (d track : Nat) (payload : List Byte) {crc : Nat}
    (hcrc : crc < 2 ^ c.crcBits) (ns : List Nat) {drives : List (Option Image)} (h : drivesInv c drives) :
    drivesInv c (writeSectors c d track payload crc ns drives).1 := by
  induction ns generalizing drives with
  | nil => exact h
  | cons n ns ih => exact ih (drivesInv_writeSector h d track n payload hcrc)

theorem crcOf_lt (c : DiskCfg) (payload : List Byte) : crcOf c payload < 2 ^ c.crcBits :=
  Nat.mod_lt _ (Nat.two_pow_pos _)

/-- A sector that is read has the size of its drive's sectors (rules R400, R401). -/
theorem sectorFits_of_readSector {c : DiskCfg} {drives : List (Option Image)} (h : drivesInv c drives)
    {d track sector : Nat} {x : Sector} (hx : readSector c drives d track sector = some x) :
    c.sectorFits x = true := by
  unfold readSector at hx
  split at hx
  · cases hx
  · next i hi =>
    split at hx
    · obtain ⟨hlength, hfits⟩ := drivesInv_iff.mp h
      have hd := imageOf_eq_some.mp hi
      obtain ⟨hlt, -⟩ := List.getElem?_eq_some_iff.mp hd
      obtain ⟨-, htracks⟩ := diskFits_iff.mp (hfits d _ i hd (List.getElem?_eq_getElem (hlength ▸ hlt)))
      obtain ⟨t, ht, hsector⟩ := Option.bind_eq_some_iff.mp hx
      obtain ⟨-, hsectors⟩ := htracks t (List.mem_of_getElem? ht)
      exact hsectors x (List.mem_of_getElem? hsector)
    · cases hx

/-! ## The floppy controller -/

theorem fdcInv_fdcFinish {c : Config} {f : Fdc} (h : fdcInv c f) : fdcInv c (fdcFinish f) := by
  obtain ⟨-, hsector⟩ := h
  exact ⟨rfl, hsector⟩

theorem fdcInv_fdcFail {c : Config} {f : Fdc} (h : fdcInv c f) (code : FdcResult) :
    fdcInv c (fdcFail c.fdc code f) := by
  obtain ⟨-, hsector⟩ := h
  exact ⟨rfl, hsector⟩

/-- A controller with a command record and in a busy state has the invariant, if its buffer and its stored CRC have
(rule R372). -/
theorem fdcInv_busy {c : Config} {f g : Fdc} (h : fdcInv c f) (hcmd : g.cmd.isSome = true)
    (hbusy : fdcBusy g.state = true) (hbuffer : g.buffer.length = f.buffer.length)
    (hcrc : g.storedCrc = f.storedCrc) : fdcInv c g := by
  obtain ⟨-, hlength, hlt⟩ := h
  exact ⟨hcmd.trans hbusy.symm, hbuffer.trans hlength, hcrc ▸ hlt⟩

/-- A read of `RESULT` leaves a busy controller in its state, and no other becomes busy (rule R375). -/
theorem fdcInv_fdcAcknowledge {c : Config} {f : Fdc} (h : fdcInv c f) : fdcInv c (fdcAcknowledge f) := by
  obtain ⟨hcmd, hsector⟩ := h
  refine ⟨?_, hsector⟩
  cases hstate : f.state <;> simpa [fdcAcknowledge, fdcBusy, hstate] using hcmd

theorem fdcInv_fdcRead {c : Config} {f : Fdc} (h : fdcInv c f) (offset : Nat) : fdcInv c (fdcRead c offset f).2 := by
  unfold fdcRead
  cases registerAt c.fdc.layout.reads offset with
  | none => exact h
  | some r =>
    cases r with
    | result => exact fdcInv_fdcAcknowledge h
    | _ => exact h

theorem fdcInv_fdcAccept {c : Config} {f : Fdc} (h : fdcInv c f) (drives : List (Option Image)) (v : Byte) :
    fdcInv c (fdcAccept c drives v f) := by
  have hclear : fdcInv c
      { f with rejected := false, lostData := false, drq := false, irqDone := false, result := .none } := h
  unfold fdcAccept
  simp only
  split
  · exact fdcInv_fdcFail hclear _
  · split
    · split
      · exact fdcInv_fdcFail hclear _
      · exact fdcInv_busy h rfl rfl rfl rfl
    · exact fdcInv_fdcFail hclear _

/-- A busy controller rejects a command (rule R392). -/
theorem fdcInv_fdcCommand {c : Config} {f : Fdc} (h : fdcInv c f) (drives : List (Option Image)) (v : Byte) :
    fdcInv c (fdcCommand c drives v f) := by
  unfold fdcCommand
  split
  · exact h
  · exact fdcInv_fdcAccept h drives v

theorem fdcInv_fdcWrite {c : Config} {f : Fdc} (h : fdcInv c f) (drives : List (Option Image)) (offset : Nat)
    (v : Byte) : fdcInv c (fdcWrite c drives offset v f) := by
  unfold fdcWrite
  cases registerAt c.fdc.layout.writes offset with
  | none => exact h
  | some r =>
    cases r with
    | command => exact fdcInv_fdcCommand h drives v
    | _ => exact h

/-- `load()` from drives of their geometry: a whole sector comes into the buffer, or the command fails (rule R380). -/
theorem fdcInv_fdcLoad {c : Config} {drives : List (Option Image)} {f : Fdc} (h : fdcInv c f)
    (hdrives : drivesInv c.disk drives) (k : FdcCmd) : fdcInv c (fdcLoad c drives k f).1 := by
  unfold fdcLoad
  split
  · exact fdcInv_fdcFail h _
  · next x hx =>
    obtain ⟨hcmd, -⟩ := h
    obtain ⟨hlength, hcrc⟩ := sectorFits_iff.mp (sectorFits_of_readSector hdrives hx)
    exact ⟨hcmd, hlength, hcrc⟩

/-- A `load()` that found its sector leaves the command record in place (rule R380). -/
theorem fdcLoad_cmd {c : Config} {drives : List (Option Image)} {k : FdcCmd} {f : Fdc}
    (h : (fdcLoad c drives k f).2 = true) : (fdcLoad c drives k f).1.cmd = f.cmd := by
  unfold fdcLoad at h ⊢
  split at h
  · cases h
  · rfl

theorem fdcInv_fdcLoadThen {c : Config} {drives : List (Option Image)} {f : Fdc} (h : fdcInv c f)
    (hcmd : f.cmd.isSome = true) (hdrives : drivesInv c.disk drives) (k : FdcCmd) {next : Fdc → Fdc}
    (hnext : ∀ g, fdcInv c g → g.cmd.isSome = true → fdcInv c (next g)) :
    fdcInv c (fdcLoadThen c drives k next f) := by
  have hload := fdcInv_fdcLoad h hdrives k
  unfold fdcLoadThen
  simp only
  split
  · next hfound => exact hnext _ hload (by rwa [fdcLoad_cmd hfound])
  · exact hload

theorem fdcInv_fdcStartRead {c : Config} {f : Fdc} (h : fdcInv c f) (hcmd : f.cmd.isSome = true) :
    fdcInv c (fdcStartRead c.fdc f) :=
  fdcInv_busy h hcmd rfl rfl rfl

/-- `begin()`, for each kind of command (rule R378). -/
theorem fdcInv_fdcBegin {c : Config} {drives : List (Option Image)} {f : Fdc} (h : fdcInv c f)
    (hcmd : f.cmd.isSome = true) (hdrives : drivesInv c.disk drives) (k : FdcCmd) :
    fdcInv c (fdcBegin c drives k f) := by
  unfold fdcBegin
  cases k.kind with
  | seek => exact fdcInv_fdcFinish h
  | read => exact fdcInv_fdcLoadThen h hcmd hdrives k fun _ => fdcInv_fdcStartRead
  | verify => exact fdcInv_fdcLoadThen h hcmd hdrives k fun _ hg hgcmd => fdcInv_busy hg hgcmd rfl rfl rfl
  | write => exact fdcInv_busy h hcmd rfl rfl rfl
  | format => exact fdcInv_busy h hcmd rfl rfl rfl

/-- What an update of the controller leaves: the controller and the drives it works on, both with their invariant. -/
def FdcDrivesInv (c : Config) (r : Fdc × List (Option Image)) : Prop :=
  fdcInv c r.1 ∧ drivesInv c.disk r.2

/-- A `commit()` leaves the controller as it was or fails (rule R382). -/
theorem fdcCommit_or (c : Config) (drives : List (Option Image)) (k : FdcCmd) (f : Fdc) :
    (fdcCommit c drives k f).1 = f ∨ (fdcCommit c drives k f).1 = fdcFail c.fdc .notFound f :=
  ite_eq_or_eq _ _ _

/-- `commit()` writes a sector, or one after the other the sectors of a track (rule R382). -/
theorem fdcDrivesInv_fdcCommit {c : Config} {drives : List (Option Image)} {f : Fdc} (h : fdcInv c f)
    (hdrives : drivesInv c.disk drives) (k : FdcCmd) : FdcDrivesInv c (fdcCommit c drives k f) := by
  constructor
  · rcases fdcCommit_or c drives k f with hok | hfail
    · rwa [hok]
    · rw [hfail]; exact fdcInv_fdcFail h _
  · unfold fdcCommit
    simp only
    split
    · exact drivesInv_writeSectors _ _ _ (crcOf_lt _ _) _ hdrives
    · exact drivesInv_writeSector hdrives _ _ _ _ (crcOf_lt _ _)

theorem fdcCommit_of_not_error {c : Config} {drives : List (Option Image)} {k : FdcCmd} {f : Fdc}
    (h : (fdcCommit c drives k f).1.state ≠ .error) : (fdcCommit c drives k f).1 = f := by
  rcases fdcCommit_or c drives k f with hok | hfail
  · exact hok
  · rw [hfail] at h; exact absurd rfl h

theorem fdcDrivesInv_fdcCommitVerify {c : Config} {drives : List (Option Image)} {f : Fdc} (h : fdcInv c f)
    (hcmd : f.cmd.isSome = true) (hdrives : drivesInv c.disk drives) (k : FdcCmd) :
    FdcDrivesInv c (fdcCommitVerify c drives k f) := by
  obtain ⟨hcommit, hafter⟩ := fdcDrivesInv_fdcCommit h hdrives k
  refine ⟨?_, hafter⟩
  unfold fdcCommitVerify
  simp only
  split
  · exact hcommit
  · next hok => exact fdcInv_busy hcommit (by rwa [fdcCommit_of_not_error hok]) rfl rfl rfl

theorem fdcInv_fdcReadSlot {c : Config} {f : Fdc} (h : fdcInv c f) (hcmd : f.cmd.isSome = true) :
    fdcInv c (fdcReadSlot c f) := by
  unfold fdcReadSlot
  split
  · exact h
  · exact fdcInv_busy h hcmd rfl rfl rfl

theorem fdcDrivesInv_fdcWriteSlot {c : Config} {drives : List (Option Image)} {f : Fdc} (h : fdcInv c f)
    (hcmd : f.cmd.isSome = true) (hdrives : drivesInv c.disk drives) (k : FdcCmd) :
    FdcDrivesInv c (fdcWriteSlot c drives k f) := by
  have hstored : fdcInv c { f with buffer := f.buffer.set f.byteIndex f.dataReg } := by
    obtain ⟨hbusy, hlength, hcrc⟩ := h
    exact ⟨hbusy, (List.length_set ..).trans hlength, hcrc⟩
  unfold fdcWriteSlot
  simp only
  split
  · exact ⟨hstored, hdrives⟩
  · refine fdcDrivesInv_fdcCommitVerify ?_ ?_ hdrives k
    · exact hstored
    · exact hcmd

theorem fdcDrivesInv_fdcSlot {c : Config} {drives : List (Option Image)} {f : Fdc} (h : fdcInv c f)
    (hcmd : f.cmd.isSome = true) (hdrives : drivesInv c.disk drives) (k : FdcCmd) :
    FdcDrivesInv c (fdcSlot c drives k f) := by
  unfold fdcSlot
  cases k.kind with
  | read => exact ⟨fdcInv_fdcReadSlot h hcmd, hdrives⟩
  | write => exact fdcDrivesInv_fdcWriteSlot h hcmd hdrives k
  | format => exact fdcDrivesInv_fdcCommitVerify h hcmd hdrives k
  | seek | verify => exact ⟨h, hdrives⟩

theorem fdcDrivesInv_fdcRetry {c : Config} {drives : List (Option Image)} {f : Fdc} (h : fdcInv c f)
    (hcmd : f.cmd.isSome = true) (hdrives : drivesInv c.disk drives) (k : FdcCmd) :
    FdcDrivesInv c (fdcRetry c drives k f) := by
  unfold fdcRetry
  cases k.kind with
  | read => exact ⟨fdcInv_fdcLoadThen h hcmd hdrives k fun _ => fdcInv_fdcStartRead, hdrives⟩
  | verify | seek => exact ⟨fdcInv_fdcLoad h hdrives k, hdrives⟩
  | write | format => exact fdcDrivesInv_fdcCommit h hdrives k

theorem fdcDrivesInv_fdcVerify {c : Config} {drives : List (Option Image)} {f : Fdc} (h : fdcInv c f)
    (hcmd : f.cmd.isSome = true) (hdrives : drivesInv c.disk drives) (k : FdcCmd) :
    FdcDrivesInv c (fdcVerify c drives k f) := by
  unfold fdcVerify
  split
  · exact ⟨fdcInv_fdcFinish h, hdrives⟩
  · split
    · have hcounted : fdcInv c { f with cmd := some { k with retryCount := k.retryCount + 1 } } := by
        obtain ⟨hbusy, hsector⟩ := h
        exact ⟨hcmd.symm.trans hbusy, hsector⟩
      exact fdcDrivesInv_fdcRetry hcounted rfl hdrives _
    · exact ⟨fdcInv_fdcFail h _, hdrives⟩

/-- The update of a controller that runs a command, by the state of the command state machine (rule R394). -/
theorem fdcDrivesInv_fdcBusyTick {c : Config} {drives : List (Option Image)} {f : Fdc} (h : fdcInv c f)
    (hcmd : f.cmd.isSome = true) (hdrives : drivesInv c.disk drives) (k : FdcCmd) :
    FdcDrivesInv c (fdcBusyTick c drives k f) := by
  unfold fdcBusyTick
  cases f.state with
  | seeking =>
    simp only
    split
    · exact ⟨fdcInv_busy h hcmd rfl rfl rfl, hdrives⟩
    · refine ⟨fdcInv_fdcBegin ?_ ?_ hdrives k, hdrives⟩
      · exact fdcInv_busy h hcmd rfl rfl rfl
      · exact hcmd
  | transferring =>
    simp only
    split
    · exact ⟨fdcInv_busy h hcmd rfl rfl rfl, hdrives⟩
    · exact fdcDrivesInv_fdcSlot h hcmd hdrives k
  | verifying => exact fdcDrivesInv_fdcVerify h hcmd hdrives k
  | idle | done | error => exact ⟨h, hdrives⟩

theorem fdcDrivesInv_fdcTick {c : Config} {drives : List (Option Image)} {f : Fdc} (h : fdcInv c f)
    (hdrives : drivesInv c.disk drives) : FdcDrivesInv c (fdcTick c drives f) := by
  unfold fdcTick
  split
  · exact ⟨h, hdrives⟩
  · next k hk => exact fdcDrivesInv_fdcBusyTick h (Option.isSome_of_eq_some hk) hdrives k

/-! ## The Mixer and the Interface Chips -/

@[simp] theorem mixerPixels_regs (c : Config) (ra : Nat) (b : Byte) (m : Mixer) :
    (mixerPixels c ra b m).regs = m.regs := by
  unfold mixerPixels
  simp only
  split <;> rfl

@[simp] theorem mixerFlush_regs (s : State) : (mixerFlush s).mixer.regs = s.mixer.regs := by
  unfold mixerFlush
  split <;> rfl

@[simp] theorem mixerFrame_regs (s : State) : (mixerFrame s).mixer.regs = s.mixer.regs := by
  unfold mixerFrame
  simp only
  split <;> simp

@[simp] theorem mixerRow_regs (s : State) : (mixerRow s).mixer.regs = s.mixer.regs := by
  unfold mixerRow
  split <;> simp

@[simp] theorem mixerTeletext_regs (s : State) : (mixerTeletext s).mixer.regs = s.mixer.regs := rfl

@[simp] theorem mixerSteps_regs (as : List Addr) (s : State) :
    (as.foldl mixerStep s).mixer.regs = s.mixer.regs := by
  induction as generalizing s with
  | nil => rfl
  | cons a as ih => rw [List.foldl_cons, ih]; exact mixerPixels_regs _ _ _ _

/-- Only the core writes the Mixer's registers (rules R330, R332). -/
@[simp] theorem mixerUpdate_regs (s : State) : (mixerUpdate s).mixer.regs = s.mixer.regs := by
  unfold mixerUpdate mixerFetches
  split <;> simp

/-- A queue within its bound, which is at least 1, stays within it (rule R359). -/
theorem enqueue_length_le {depth : Nat} {q : List IfEvent} (hdepth : 0 < depth) (h : q.length ≤ depth)
    (e : IfEvent) : (enqueue depth q e).1.length ≤ depth := by
  unfold enqueue
  split
  · simp only [List.length_append, List.length_drop, List.length_singleton]; omega
  · simp only [List.length_append, List.length_singleton]; omega

theorem queuesInv_set {c : Config} {chips : List IfChip} {k : Nat} {chip : IfChip} (h : queuesInv c chips)
    (hchip : chip.queue.length ≤ c.eventQueueDepth) : queuesInv c (chips.set k chip) := by
  intro x hx
  rcases List.mem_or_eq_of_mem_set hx with hx | rfl
  · exact h x hx
  · exact hchip

theorem deliverEvent_queue (chip : IfChip) : (deliverEvent chip).queue = chip.queue.tail := by
  unfold deliverEvent
  split <;> simp [*]

theorem ifTick_queue (k : Nat) (chip : IfChip) : (ifTick k chip).1.queue = chip.queue := by
  unfold ifTick
  split <;> rfl

theorem eventQueueDepth_pos {c : Config} (hwf : c.wellFormed = true) : 0 < c.eventQueueDepth := by
  simp only [Config.wellFormed, Config.countsLegal, Bool.and_eq_true, decide_eq_true_eq] at hwf
  tauto

/-! ## The parts of the invariant together -/

/-- The invariant without the line bitset, which is out of date while a tick runs (rule R72). -/
structure PartsInv (s : State) : Prop where
  mem       : Memory.wf s.mem = true
  banks     : banksInv s.banks
  chipCount : s.ifChips.length = s.cfg.ifChips.length
  queues    : queuesInv s.cfg s.ifChips
  vtg       : vtgInv s.cfg.vtg s.vtg
  mixer     : mixerInv s.cfg.mixer s.mixer
  fdc       : fdcInv s.cfg s.fdc
  drives    : drivesInv s.cfg.disk s.drives

theorem stepInv_iff {s : State} : StepInv s ↔ PartsInv s ∧ s.sched.linesOut = drivenLines s := by
  constructor
  · rintro ⟨hmem, hbanks, hcount, hqueues, hvtg, hmixer, hfdc, hdrives, hlines⟩
    exact ⟨⟨hmem, hbanks, hcount, hqueues, hvtg, hmixer, hfdc, hdrives⟩, hlines⟩
  · rintro ⟨⟨hmem, hbanks, hcount, hqueues, hvtg, hmixer, hfdc, hdrives⟩, hlines⟩
    exact ⟨hmem, hbanks, hcount, hqueues, hvtg, hmixer, hfdc, hdrives, hlines⟩

/-- Replacing one Interface Chip by one with a bounded queue, whatever it emits and the scheduler counts. -/
theorem PartsInv.setChip {s : State} (h : PartsInv s) (k : Nat) {chip : IfChip}
    (hchip : chip.queue.length ≤ s.cfg.eventQueueDepth) (output : List OutEvent) (sched : Sched) :
    PartsInv { s with ifChips := s.ifChips.set k chip, output := output, sched := sched } :=
  { h with chipCount := (List.length_set ..).trans h.chipCount, queues := queuesInv_set h.queues hchip }

theorem PartsInv.queue_le {s : State} (h : PartsInv s) {k : Nat} {chip : IfChip} (hk : s.ifChips[k]? = some chip) :
    chip.queue.length ≤ s.cfg.eventQueueDepth :=
  h.queues chip (List.mem_of_getElem? hk)

/-- An access of an Interface Chip leaves its queue. -/
theorem PartsInv.setUnit {s : State} (h : PartsInv s) {k : Nat} {chip : IfChip} (hk : s.ifChips[k]? = some chip)
    (u : IfUnit) (output : List OutEvent) :
    PartsInv { s with ifChips := s.ifChips.set k { chip with unit := u }, output := output } := by
  have hbound := h.queue_le hk
  exact h.setChip k (chip := { chip with unit := u }) hbound output s.sched

/-! ## Bus accesses -/

/-- A core read changes the controller or an Interface Chip at most (rule R64). -/
theorem partsInv_resolveRead {s : State} (h : PartsInv s) (a : Addr) : PartsInv (resolveRead a s).2 := by
  unfold resolveRead
  split
  · exact { h with }
  · next e he =>
    cases e.owner with
    | fdc => exact { h with fdc := fdcInv_fdcRead h.fdc _ }
    | ifChip k =>
      simp only
      split
      · exact h
      · next chip hk => exact h.setUnit hk _ _
    | _ => exact h

/-- A core write changes what its owner's response changes (rule R64). -/
theorem partsInv_resolveWrite {s : State} (h : PartsInv s) (a : Addr) (v : Byte) :
    PartsInv (resolveWrite a v s) := by
  unfold resolveWrite
  split
  · exact { h with }
  · next e he =>
    cases e.owner with
    | ram => exact { h with mem := Memory.wf_write a v h.mem }
    | rom => exact h
    | bank k | bankSelect k => exact { h with banks := banksInv_storeBanks a v h.banks }
    | vtg => exact { h with vtg := vtgInv_vtgWrite _ v h.vtg }
    | mixer => exact { h with mixer := mixerWrite_fits _ v h.mixer }
    | fdc => exact { h with fdc := fdcInv_fdcWrite h.fdc _ _ v }
    | ifChip k =>
      simp only
      split
      · exact h
      · next chip hk => exact h.setUnit hk _ _

theorem partsInv_cycleAct {s : State} (h : PartsInv s) (m : Micro) (next : Phase) (c : Cycle) :
    PartsInv (cycleAct m next c s) := by
  unfold cycleAct
  split
  · exact { partsInv_resolveRead h _ with }
  · exact { partsInv_resolveWrite h _ _ with }

theorem partsInv_fetchWith {s : State} (h : PartsInv s) (finish : Cpu → Cpu) : PartsInv (fetchWith finish s) :=
  { partsInv_resolveRead h _ with }

theorem partsInv_coreTurn {s t : State} (h : PartsInv s) (ht : coreTurn s = .next t) : PartsInv t := by
  cases CoreMove.of_coreTurn ht with
  | none => exact h
  | row m next c => exact partsInv_cycleAct h m next c
  | fetch finish => exact partsInv_fetchWith h finish

/-! ## The boundary and the chips' parts of a tick -/

theorem partsInv_queueEvent {s : State} (h : PartsInv s) (hdepth : 0 < s.cfg.eventQueueDepth)
    (e : Nat × IfEvent) : PartsInv (queueEvent s e) := by
  unfold queueEvent
  split
  · exact h
  · next chip hk =>
    have hbound := enqueue_length_le hdepth (h.queue_le hk) e.2
    exact h.setChip e.1 hbound _ _

theorem partsInv_queueEvents {s : State} (h : PartsInv s) (hdepth : 0 < s.cfg.eventQueueDepth)
    (es : List (Nat × IfEvent)) : PartsInv (es.foldl queueEvent s) := by
  induction es generalizing s with
  | nil => exact h
  | cons e es ih => exact ih (partsInv_queueEvent h hdepth e) (by simpa using hdepth)

theorem partsInv_deliverEvents {s : State} (h : PartsInv s) : PartsInv (deliverEvents s) := by
  refine { h with chipCount := (List.length_map _).trans h.chipCount, queues := fun chip hchip => ?_ }
  obtain ⟨x, hx, rfl⟩ := List.mem_map.mp hchip
  have hbound := h.queues x hx
  simp only [deliverEvent_queue, List.length_tail, deliverEvents_cfg]
  omega

theorem partsInv_boundaryOn {s : State} (h : PartsInv s) (hdepth : 0 < s.cfg.eventQueueDepth) (i : TickInput) :
    PartsInv (boundaryOn i s) := by
  have hlines : PartsInv (boundaryLines i.lines s) := { h with }
  have hevents := partsInv_queueEvents hlines hdepth
    (i.events ++ wireEvents s.cfg.wires s.sched.signals (wireLevels s))
  have hdelivered := partsInv_deliverEvents hevents
  exact { hdelivered with drives := drivesInv_applyDriveEvents i.drives hdelivered.drives }

theorem partsInv_mixerUpdate {s : State} (h : PartsInv s) : PartsInv (mixerUpdate s) := by
  obtain ⟨tr, ⟨⟨n, hframe⟩, -⟩, -⟩ := mixerUpdate_adds s
  have hmixer : mixerInv s.cfg.mixer (mixerUpdate s).mixer := by
    simpa only [mixerInv, mixerUpdate_regs] using h.mixer
  rw [hframe]
  exact { h with mixer := hmixer }

theorem partsInv_ifTurnAt {s : State} (h : PartsInv s) (k : Nat) : PartsInv (ifTurnAt s k) := by
  unfold ifTurnAt ifTickAt
  split
  · split
    · exact h
    · next chip hk =>
      have hbound : (ifTick k chip).1.queue.length ≤ s.cfg.eventQueueDepth := by
        rw [ifTick_queue]; exact h.queue_le hk
      exact h.setChip k hbound _ _
  · exact h

theorem partsInv_ifTurns {s : State} (h : PartsInv s) : PartsInv (ifTurns s) := by
  unfold ifTurns
  generalize ifOrder s.cfg = ks
  induction ks generalizing s with
  | nil => exact h
  | cons k ks ih => exact ih (partsInv_ifTurnAt h k)

theorem partsInv_fdcUpdate {s : State} (h : PartsInv s) : PartsInv (fdcUpdate s) := by
  obtain ⟨hfdc, hdrives⟩ := fdcDrivesInv_fdcTick h.fdc h.drives
  exact { h with fdc := hfdc, drives := hdrives }

theorem partsInv_chipTurn {s : State} (h : PartsInv s) (k : Chip) : PartsInv (chipTurn s k) := by
  cases k with
  | vtg =>
    simp only [chipTurn]
    split
    · exact { h with vtg := vtgInv_vtgTick h.vtg }
    · exact { h with }
  | mixer =>
    simp only [chipTurn]
    split
    · exact partsInv_mixerUpdate h
    · exact h
  | ifChips => exact partsInv_ifTurns h
  | fdc =>
    simp only [chipTurn]
    split
    · exact partsInv_fdcUpdate h
    · exact h

theorem partsInv_chipTurns {s : State} (h : PartsInv s) (ks : List Chip) : PartsInv (chipTurns ks s) := by
  induction ks generalizing s with
  | nil => exact h
  | cons k ks ih => exact ih (partsInv_chipTurn h k)

/-! ## Ticks and steps -/

/-- What follows the core in a tick ends with the drivers, so that the line bitset is up to date (rule R72). -/
theorem stepInv_afterCore {s : State} (h : PartsInv s) : StepInv (afterCore s) :=
  stepInv_iff.mpr ⟨{ partsInv_chipTurns h s.cfg.tickOrder.after with }, rfl⟩

/-- A tick brings the parts of the invariant to the whole of it. Only a well-formed configuration runs, and there a
queue has room for an event (rule R359). -/
theorem stepInv_of_tick {s t : State} (h : PartsInv s) (ht : tick s = .next t) : StepInv t := by
  unfold tick tickOn at ht
  split at ht
  · next hwf =>
    have hdropped : PartsInv s.dropInput := { h with }
    have hboundary := partsInv_boundaryOn hdropped (eventQueueDepth_pos hwf) s.nextInput
    have hbefore : PartsInv (beforeCore (boundaryOn s.nextInput s.dropInput)) := partsInv_chipTurns hboundary _
    split at ht
    · next u hu =>
      cases ht
      exact stepInv_afterCore (partsInv_coreTurn hbefore hu)
    · cases ht
    · cases ht
  · cases ht

theorem stepInv_of_ticks {n : Nat} {s t : State} (h : StepInv s) (ht : ticks n s = .next t) : StepInv t := by
  induction n generalizing s with
  | zero => cases ht; exact h
  | succ n ih =>
    unfold ticks at ht
    split at ht
    · next u hu =>
      obtain ⟨hparts, -⟩ := stepInv_iff.mp h
      exact ih (stepInv_of_tick hparts hu) ht
    · cases ht
    · cases ht

/-- Settles O9: a step is a number of ticks, and each tick keeps the invariant. -/
theorem stepKeepsInvariant : Obligations.StepKeepsInvariant := by
  intro s t h hstep
  obtain ⟨n, -, hticks⟩ := leadsTo_of_step hstep
  exact stepInv_of_ticks h hticks

end Sys2Proof.Machine
end

section
/-! SUPPORT. Writes of the timing generator wait for a boundary (obligation O51): the bits that a write stages, and the
boundary that applies them before it steps and compares the counters. -/

namespace Sys2Proof.Machine

/-! ## The bits that a write stages -/

/-- The bits of `x` from `low` on, `bits` of them, moved to `shift`. -/
theorem testBit_field (x low bits shift i : Nat) : (x / 2 ^ low % 2 ^ bits * 2 ^ shift).testBit i = true ↔
    shift ≤ i ∧ i < shift + bits ∧ x.testBit (low + (i - shift)) = true := by
  simp only [Nat.testBit_mul_two_pow, Nat.testBit_mod_two_pow, Nat.testBit_div_two_pow, Bool.and_eq_true,
    decide_eq_true_eq, Nat.add_comm low]
  exact and_congr_right fun hshift => and_congr_left' (Nat.sub_lt_iff_lt_add' hshift)

/-- The bits that are not read-only (rule R39). -/
theorem testBit_writable (readOnly : Byte) (i : Nat) :
    (255 - readOnly.toNat).testBit i = true ↔ i < 8 ∧ readOnly.getLsbD i = false := by
  have hsub : 255 - readOnly.toNat = 2 ^ 8 - (readOnly.toNat + 1) := by omega
  rw [hsub, Nat.testBit_two_pow_sub_succ readOnly.isLt]
  simp [BitVec.getLsbD]

/-- An update that takes over the bits of `v` that the part `p` of a register names: those that the field has and that
are not read-only (rules R39, R322). -/
def StagesPart (c : VtgCfg) (readOnly v : Byte) (p : VtgPart) (u : VtgUpdate) : Prop :=
  u.field = p.field ∧ ∀ i,
    (u.mask.testBit i = true ↔ p.shift ≤ i ∧ i < p.shift + p.bits ∧ i < vtgGet c.widths p.field ∧
      p.low + (i - p.shift) < 8 ∧ readOnly.getLsbD (p.low + (i - p.shift)) = false) ∧
    (u.mask.testBit i = true → u.value.testBit i = v.getLsbD (p.low + (i - p.shift)))

theorem testBit_stagePart_mask (readOnly v : Byte) (p : VtgPart) (i : Nat) :
    (vtgStagePart readOnly v p).mask.testBit i = true ↔ p.shift ≤ i ∧ i < p.shift + p.bits ∧
      p.low + (i - p.shift) < 8 ∧ readOnly.getLsbD (p.low + (i - p.shift)) = false :=
  (testBit_field _ _ _ _ _).trans (by rw [testBit_writable])

theorem testBit_stagePart_value (readOnly v : Byte) (p : VtgPart) (i : Nat) :
    (vtgStagePart readOnly v p).value.testBit i = true ↔
      p.shift ≤ i ∧ i < p.shift + p.bits ∧ v.getLsbD (p.low + (i - p.shift)) = true :=
  testBit_field _ _ _ _ _

theorem stagesPart_cut (c : VtgCfg) (readOnly v : Byte) (p : VtgPart) :
    StagesPart c readOnly v p (vtgCut c (vtgStagePart readOnly v p)) := by
  refine ⟨rfl, fun i => ?_⟩
  have hmask : (vtgCut c (vtgStagePart readOnly v p)).mask.testBit i = true ↔
      i < vtgGet c.widths p.field ∧ (vtgStagePart readOnly v p).mask.testBit i = true := by
    simp [vtgCut, vtgWidth, vtgStagePart, Nat.testBit_mod_two_pow]
  have hvalue := testBit_stagePart_value readOnly v p i
  rw [hmask, testBit_stagePart_mask]
  refine ⟨by tauto, ?_⟩
  rintro ⟨-, hshift, hbits, -⟩
  exact Bool.eq_iff_iff.mpr (hvalue.trans (by simp [hshift, hbits]))

/-- A write stages an update for each part of the register, in order (rules R322, R323). -/
theorem vtgStage_parts (c : VtgCfg) (r : VtgReg) (v : Byte) :
    (vtgStage c r v).length = r.parts.length ∧ ∀ (n : Nat) (p : VtgPart), r.parts[n]? = some p →
      ∃ u, (vtgStage c r v)[n]? = some u ∧ StagesPart c r.readOnly v p u :=
  ⟨List.length_map _, fun n p hp => ⟨_, by simp [vtgStage, hp], stagesPart_cut c r.readOnly v p⟩⟩

/-! ## What stands at an offset -/

section Ports

variable {c : VtgCfg} {offset : Nat} (v : Byte) (g : Vtg)

theorem vtgPort_of_getElem? {p : VtgPort} (h : c.ports[offset]? = some p) : vtgPort c offset = p := by
  simp [vtgPort, List.getD_eq_getElem?_getD, h]

theorem vtgWrite_index (hfree : c.free = false) (h : c.ports[offset]? = some .index) :
    vtgWrite c offset v g = { g with index := v.toNat } := by
  simp [vtgWrite, hfree, vtgPort_of_getElem? h]

theorem vtgWrite_direct {r : VtgReg} (hfree : c.free = false) (h : c.ports[offset]? = some (.direct r)) :
    vtgWrite c offset v g = { g with pending := g.pending ++ vtgStage c r v } := by
  simp [vtgWrite, hfree, vtgPort_of_getElem? h]

theorem vtgWrite_data {r : VtgReg} (hfree : c.free = false) (h : c.ports[offset]? = some .data)
    (hr : c.regs[g.index]? = some r) :
    vtgWrite c offset v g = { g with pending := g.pending ++ vtgStage c r v } := by
  have hreg : vtgRegister c g.index = r := by simp [vtgRegister, List.getD_eq_getElem?_getD, hr]
  simp [vtgWrite, hfree, vtgPort_of_getElem? h, hreg]

end Ports

/-! ## The boundary -/

/-- The step of the counters leaves the registers, the position in the character, what is pending and the index. -/
theorem vtgAdvance_keeps (c : VtgCfg) (g : Vtg) :
    (vtgAdvance c g).charPhase = g.charPhase ∧ (vtgAdvance c g).pending = g.pending ∧
      (vtgAdvance c g).reg = g.reg ∧ (vtgAdvance c g).index = g.index := by
  by_cases hline : g.hcount + 1 < g.reg.hTotal
  · rw [vtgAdvance_inLine c hline]
    exact ⟨rfl, rfl, rfl, rfl⟩
  · by_cases hframe : g.vcount + 1 < g.reg.vTotal
    · rw [vtgAdvance_newLine c (Nat.not_lt.mp hline) hframe]
      exact ⟨rfl, rfl, rfl, rfl⟩
    · rw [vtgAdvance_newFrame c (Nat.not_lt.mp hline) (Nat.not_lt.mp hframe)]
      exact ⟨rfl, rfl, rfl, rfl⟩

/-- The counters at a boundary that ends a line (rules R315, R316). -/
theorem vtgAdvance_lineEnd (c : VtgCfg) {g : Vtg} (h : g.reg.hTotal ≤ g.hcount + 1) :
    (vtgAdvance c g).hcount = 0 ∧ (vtgAdvance c g).ma = (vtgAdvance c g).rowBase ∧ (vtgAdvance c g).lineStart = true ∧
      (vtgAdvance c g).vcount = (if g.reg.vTotal ≤ g.vcount + 1 then 0 else g.vcount + 1) ∧
      (vtgAdvance c g).frameStart = decide (g.reg.vTotal ≤ g.vcount + 1) := by
  by_cases hframe : g.reg.vTotal ≤ g.vcount + 1
  · rw [vtgAdvance_newFrame c h hframe]
    simp [vtgLineAt, hframe]
  · rw [vtgAdvance_newLine c h (Nat.not_le.mp hframe)]
    simp [vtgLineAt, hframe]

theorem vtgOutputs_hsync (g : Vtg) :
    (vtgOutputs g).hsync = true ↔ g.reg.hSyncPos ≤ g.hcount ∧ g.hcount < g.reg.hSyncPos + g.reg.hSyncWidth := by
  simp [vtgOutputs]

theorem vtgOutputs_vsync (g : Vtg) :
    (vtgOutputs g).vsync = true ↔ g.reg.vSyncPos ≤ g.vcount ∧ g.vcount < g.reg.vSyncPos + g.reg.vSyncWidth := by
  simp [vtgOutputs]

theorem vtgOutputs_displayEnable (g : Vtg) :
    (vtgOutputs g).displayEnable = true ↔ g.hcount < g.reg.hDisplayed ∧ g.vcount < g.reg.vDisplayed := by
  simp [vtgOutputs]

theorem testBit_vtgApply (r : VtgRegs) (u : VtgUpdate) (f : VtgField) (i : Nat) :
    (vtgGet (vtgApply r u) f).testBit i =
      if f = u.field ∧ u.mask.testBit i = true then u.value.testBit i else (vtgGet r f).testBit i := by
  rw [vtgGet_vtgApply]
  by_cases hf : f = u.field
  · simp [hf, mergeBits_testBit]
  · simp [hf]

/-- Settles O51: a write stages an update for each part of its register, and only a boundary applies what is pending,
before the counters step and are compared. -/
theorem videoWritesDeferred : Obligations.VideoWritesDeferred := by
  refine ⟨fun c offset v g => ⟨fun hfree => ⟨?index, ?direct, ?data⟩, fun hfree => ?free⟩, testBit_vtgApply,
    fun c g => vtgTick_inside, fun c g h => ?boundary⟩
  case index => exact vtgWrite_index v g hfree
  case direct => exact fun r hport => ⟨_, vtgWrite_direct v g hfree hport, vtgStage_parts c r v⟩
  case data => exact fun r hport hr => ⟨_, vtgWrite_data v g hfree hport hr, vtgStage_parts c r v⟩
  case free => exact vtgWrite_stages c offset v g
  case boundary =>
    intro r t
    have ht : t = vtgOutputs (vtgAdvance c (vtgLoaded g)) := vtgTick_boundary h
    obtain ⟨hchar, hpending, (hreg : _ = r), hindex⟩ := vtgAdvance_keeps c (vtgLoaded g)
    rw [ht]
    refine ⟨hchar, hpending, hreg, hindex, fun hline => ?_, vtgAdvance_lineEnd c (g := vtgLoaded g), ?_, ?_, ?_⟩
    · rw [vtgAdvance_inLine c (g := vtgLoaded g) hline]
      exact ⟨rfl, rfl, rfl, rfl, rfl⟩
    · exact hreg ▸ vtgOutputs_hsync _
    · exact hreg ▸ vtgOutputs_vsync _
    · exact hreg ▸ vtgOutputs_displayEnable _

end Sys2Proof.Machine
end

section
/-! SUPPORT. The frame of the timing generator with constant registers (obligation O52): its place in the frame after
each number of ticks, as quotients and remainders, and the boundary of the next frame. -/

namespace Sys2Proof.Machine

theorem vtgTicks_succ (c : VtgCfg) (n : Nat) (g : Vtg) : vtgTicks c (n + 1) g = vtgTick c (vtgTicks c n g) := by
  induction n generalizing g with
  | zero => rfl
  | succ n ih => exact ih (vtgTick c g)

/-! ## Quotients and remainders, one further -/

theorem div_mod_succ_of_lt {n k : Nat} (h : n % k + 1 < k) : (n + 1) / k = n / k ∧ (n + 1) % k = n % k + 1 :=
  (Nat.div_mod_unique (Nat.zero_lt_of_lt h)).mpr ⟨by have := Nat.mod_add_div n k; omega, h⟩

theorem div_mod_succ_of_le {n k : Nat} (hk : 0 < k) (h : k ≤ n % k + 1) :
    (n + 1) / k = n / k + 1 ∧ (n + 1) % k = 0 := by
  refine (Nat.div_mod_unique hk).mpr ⟨?_, hk⟩
  have hlt := Nat.mod_lt n hk
  have hn := Nat.mod_add_div n k
  rw [Nat.mul_add]
  omega

theorem le_mod_succ_of_dvd {n k : Nat} (h : k ∣ n + 1) : k ≤ n % k + 1 := by
  by_contra hlt
  obtain ⟨-, hmod⟩ := div_mod_succ_of_lt (Nat.not_le.mp hlt)
  rw [Nat.mod_eq_zero_of_dvd h] at hmod
  cases hmod

/-! ## The place in the frame -/

/-- The timing generator `t` stands `n` ticks after the frame boundary `g`, in the same frame, with the registers of
`g` (rules R316, R320). -/
structure InFrame (c : VtgCfg) (g : Vtg) (n : Nat) (t : Vtg) : Prop where
  reg           : t.reg = g.reg
  pending       : t.pending = []
  charPhase     : t.charPhase = n % c.ticksPerChar
  hcount        : t.hcount = n / c.ticksPerChar % g.reg.hTotal
  vcount        : t.vcount = n / c.ticksPerChar / g.reg.hTotal
  field         : t.field = g.field
  frameStart    : 0 < n → t.frameStart = false
  displayEnable : t.displayEnable = true ↔ t.hcount < g.reg.hDisplayed ∧ t.vcount < g.reg.vDisplayed

section Frame

variable {c : VtgCfg} {g t : Vtg} {n : Nat}

theorem inFrame_zero (hchar : g.charPhase = 0) (hcount : g.hcount = 0) (vcount : g.vcount = 0)
    (hpending : g.pending = []) (hout : vtgOutputs g = g) : InFrame c g 0 g where
  reg := rfl
  pending := hpending
  charPhase := by simp [hchar]
  hcount := by simp [hcount]
  vcount := by simp [vcount]
  field := rfl
  frameStart := fun h => absurd h (Nat.lt_irrefl 0)
  displayEnable := by rw [← vtgOutputs_displayEnable, hout]

/-- With no write pending a boundary takes the registers and the counters as they are. -/
theorem InFrame.loaded (h : InFrame c g n t) : vtgLoaded t = { t with charPhase := 0 } := by
  simp [vtgLoaded, h.pending]

/-- A tick inside a character. -/
theorem InFrame.inChar (h : InFrame c g n t) (hchar : n % c.ticksPerChar + 1 < c.ticksPerChar) :
    InFrame c g (n + 1) (vtgTick c t) := by
  obtain ⟨hdiv, hmod⟩ := div_mod_succ_of_lt hchar
  rw [vtgTick_inside (by rwa [h.charPhase])]
  exact { h with
    charPhase := by rw [hmod, h.charPhase]
    hcount := by rw [hdiv, h.hcount]
    vcount := by rw [hdiv, h.vcount]
    frameStart := fun _ => rfl }

/-- A character boundary inside a line. -/
theorem InFrame.inLine (hticks : 0 < c.ticksPerChar) (h : InFrame c g n t)
    (hchar : c.ticksPerChar ≤ n % c.ticksPerChar + 1)
    (hline : n / c.ticksPerChar % g.reg.hTotal + 1 < g.reg.hTotal) : InFrame c g (n + 1) (vtgTick c t) := by
  obtain ⟨hdiv, hmod⟩ := div_mod_succ_of_le hticks hchar
  obtain ⟨hdiv', hmod'⟩ := div_mod_succ_of_lt hline
  rw [vtgTick_boundary (by rwa [h.charPhase]), h.loaded, vtgAdvance_inLine c (by simpa [h.reg, h.hcount] using hline)]
  exact { h with
    charPhase := hmod.symm
    hcount := by simp [vtgOutputs, hdiv, hmod', h.hcount]
    vcount := by simp [vtgOutputs, hdiv, hdiv', h.vcount]
    frameStart := fun _ => rfl
    displayEnable := h.reg ▸ vtgOutputs_displayEnable _ }

/-- The end of a line inside the frame. -/
theorem InFrame.newLine (hticks : 0 < c.ticksPerChar) (hpos : 0 < g.reg.hTotal) (h : InFrame c g n t)
    (hchar : c.ticksPerChar ≤ n % c.ticksPerChar + 1)
    (hline : g.reg.hTotal ≤ n / c.ticksPerChar % g.reg.hTotal + 1)
    (hframe : n / c.ticksPerChar / g.reg.hTotal + 1 < g.reg.vTotal) : InFrame c g (n + 1) (vtgTick c t) := by
  obtain ⟨hdiv, hmod⟩ := div_mod_succ_of_le hticks hchar
  obtain ⟨hdiv', hmod'⟩ := div_mod_succ_of_le hpos hline
  rw [vtgTick_boundary (by rwa [h.charPhase]), h.loaded,
    vtgAdvance_newLine c (by simpa [h.reg, h.hcount] using hline) (by simpa [h.reg, h.vcount] using hframe)]
  exact { h with
    charPhase := hmod.symm
    hcount := by simp [vtgOutputs, vtgLineAt, hdiv, hmod']
    vcount := by simp [vtgOutputs, vtgLineAt, hdiv, hdiv', h.vcount]
    frameStart := fun _ => rfl
    displayEnable := h.reg ▸ vtgOutputs_displayEnable _ }

/-- Before the end of the period a tick stays in the frame. -/
theorem InFrame.succ (hticks : 0 < c.ticksPerChar) (hpos : 0 < g.reg.hTotal) (h : InFrame c g n t)
    (hn : n + 1 < g.reg.hTotal * g.reg.vTotal * c.ticksPerChar) : InFrame c g (n + 1) (vtgTick c t) := by
  by_cases hchar : n % c.ticksPerChar + 1 < c.ticksPerChar
  · exact h.inChar hchar
  · have hchar := Nat.not_lt.mp hchar
    by_cases hline : n / c.ticksPerChar % g.reg.hTotal + 1 < g.reg.hTotal
    · exact h.inLine hticks hchar hline
    · have hline := Nat.not_lt.mp hline
      refine h.newLine hticks hpos hchar hline ?_
      obtain ⟨hdiv, -⟩ := div_mod_succ_of_le hticks hchar
      obtain ⟨hdiv', -⟩ := div_mod_succ_of_le hpos hline
      rw [← hdiv', ← hdiv]
      exact Nat.div_lt_of_lt_mul (Nat.div_lt_of_lt_mul (by rwa [Nat.mul_comm] at hn))

theorem inFrame_ticks (hticks : 0 < c.ticksPerChar) (hpos : 0 < g.reg.hTotal) (h : InFrame c g 0 g)
    (hn : n < g.reg.hTotal * g.reg.vTotal * c.ticksPerChar) : InFrame c g n (vtgTicks c n g) := by
  induction n with
  | zero => exact h
  | succ n ih =>
    rw [vtgTicks_succ]
    exact (ih (Nat.lt_of_succ_lt hn)).succ hticks hpos hn

/-- The last tick of the period is the boundary of the next frame (rules R316, R327). -/
theorem InFrame.newFrame (hticks : 0 < c.ticksPerChar) (hpos : 0 < g.reg.hTotal) (h : InFrame c g n t)
    (hn : n + 1 = g.reg.hTotal * g.reg.vTotal * c.ticksPerChar) :
    vtgTick c t = vtgOutputs (vtgLineAt (frameStartPolicy c g.reg !g.field)
      { t with charPhase := 0, vcount := 0, field := !g.field, frameStart := true }) := by
  have hchar : c.ticksPerChar ≤ n % c.ticksPerChar + 1 := le_mod_succ_of_dvd ⟨_, hn.trans (Nat.mul_comm _ _)⟩
  obtain ⟨hdiv, -⟩ := div_mod_succ_of_le hticks hchar
  have hchars : n / c.ticksPerChar + 1 = g.reg.hTotal * g.reg.vTotal := by
    rw [← hdiv, hn, Nat.mul_div_cancel _ hticks]
  have hline : g.reg.hTotal ≤ n / c.ticksPerChar % g.reg.hTotal + 1 := le_mod_succ_of_dvd ⟨_, hchars⟩
  obtain ⟨hdiv', -⟩ := div_mod_succ_of_le hpos hline
  have hlines : n / c.ticksPerChar / g.reg.hTotal + 1 = g.reg.vTotal := by
    rw [← hdiv', hchars, Nat.mul_div_cancel_left _ hpos]
  rw [vtgTick_boundary (by rwa [h.charPhase]), h.loaded,
    vtgAdvance_newFrame c (by simpa [h.reg, h.hcount] using hline) (by simpa [h.reg, h.vcount] using hlines.ge)]
  simp [h.reg, h.field]

end Frame

/-- Settles O52: by induction on the ticks of the frame, and the tick that ends the last character of its last line. -/
theorem videoFrame : Obligations.VideoFrame := by
  intro c g hticks hh hv hchar hcount vcount hpending hout period
  have hzero : InFrame c g 0 g := inFrame_zero hchar hcount vcount hpending hout
  refine ⟨fun n hn => ?_, ?_⟩
  · have h := inFrame_ticks hticks hh hzero hn
    exact ⟨h.reg, h.charPhase, h.hcount, h.vcount, h.field, h.frameStart, h.hcount ▸ h.vcount ▸ h.displayEnable⟩
  · have hperiod : 0 < period := Nat.mul_pos (Nat.mul_pos hh hv) hticks
    obtain ⟨n, hn⟩ := Nat.exists_eq_succ_of_ne_zero hperiod.ne'
    have h := inFrame_ticks hticks hh hzero (n := n) (by omega)
    rw [hn, vtgTicks_succ, h.newFrame hticks hh hn.symm]
    exact ⟨rfl, rfl, rfl, rfl, rfl, h.reg⟩

end Sys2Proof.Machine
end

section
/-! SUPPORT. The teletext row state (obligation O54): the first scan line of a character row, and what a line start does
there and on the other lines. -/

namespace Sys2Proof.Machine

/-- The condition of rule R342 on the scan line `ra`. -/
theorem ttxFirstLine_iff (p : AddrPolicy) (ra : Nat) (field : Bool) :
    ttxFirstLine p ra field = true ↔ ra = 0 ∨ p = .interlaced ∧ ra = field.toNat := by
  simp only [ttxFirstLine, Bool.or_eq_true, Bool.and_eq_true, beq_iff_eq]

/-- A row that is itself a lower half starts no lower half below it, whatever codes it holds (rule R342). -/
theorem ttxLineStart_first (c : TtxCfg) (t : Ttx) :
    ttxLineStart c true t = ⟨c.fgDefault, c.bgDefault, false, false, false, t.dhSeen && !t.dhBottom⟩ := rfl

/-- The other scan lines of a character row keep both marks, so that the row looks the same on all of them. -/
theorem ttxLineStart_other (c : TtxCfg) (t : Ttx) :
    ttxLineStart c false t = ⟨c.fgDefault, c.bgDefault, false, false, t.dhSeen, t.dhBottom⟩ := rfl

/-- Settles O54: by cases on whether the scan line is the first of its character row. -/
theorem teletextRowStart : Obligations.TeletextRowStart := by
  intro c t p ra field first u
  refine ⟨ttxFirstLine_iff p ra field, ⟨rfl, rfl, rfl, rfl⟩, fun hfirst => ?_, fun hother => ?_, rfl⟩
  · simp [u, hfirst, ttxLineStart_first]
  · simp [u, hother, ttxLineStart_other]

end Sys2Proof.Machine
end

section
/-! SUPPORT. The Interface Chips (obligations O55 to O57): the two cases of appending to a bounded queue, the bits of a
port's data register and of its pins, and the serial transmitter some updates after a write. -/

namespace Sys2Proof.Machine

/-! ## Event queues -/

theorem enqueue_of_lt {depth : Nat} {q : List IfEvent} (h : q.length < depth) (e : IfEvent) :
    enqueue depth q e = (q ++ [e], false) :=
  if_neg h.not_ge

theorem enqueue_full (q : List IfEvent) (e : IfEvent) : enqueue q.length q e = (q.tail ++ [e], true) := by
  simp [enqueue]

theorem queueEvent_of_chip {s : State} {k : Nat} {chip : IfChip} (h : s.ifChips[k]? = some chip) (e : IfEvent) :
    queueEvent s (k, e) = { s with
      ifChips := s.ifChips.set k { chip with queue := (enqueue s.cfg.eventQueueDepth chip.queue e).1 }
      sched := { s.sched with
        droppedEvents := s.sched.droppedEvents + (enqueue s.cfg.eventQueueDepth chip.queue e).2.toNat } } := by
  simp only [queueEvent, h]

theorem deliverEvent_cons {chip : IfChip} {e : IfEvent} {q : List IfEvent} (h : chip.queue = e :: q) :
    deliverEvent chip = ⟨applyEvent chip.unit e, q, some e⟩ := by
  simp only [deliverEvent, h]

theorem deliverEvent_nil {chip : IfChip} (h : chip.queue = []) :
    deliverEvent chip = { chip with extLatch := none } := by
  simp only [deliverEvent, h]

/-- Settles O55: a queue within its bound is full or has room for the event, and a boundary finds it empty or not. -/
theorem eventQueues : Obligations.EventQueues := by
  refine ⟨?_, fun _ _ _ => deliverEvent_cons, fun _ => deliverEvent_nil⟩
  intro s k chip e _ hchip hbound full
  rw [queueEvent_of_chip hchip]
  by_cases hfull : chip.queue.length = s.cfg.eventQueueDepth
  · simp [full, ← hfull, enqueue_full]
  · simp [full, hfull, enqueue_of_lt (hbound.lt_of_ne hfull)]

/-! ## Parallel ports -/

/-- Two bytes mixed under a mask, as in a port's data register and in a pin event. -/
theorem getLsbD_select (x y mask : Byte) {i : Nat} (hi : i < 8) :
    ((x &&& mask) ||| (y &&& ~~~mask)).getLsbD i = if mask.getLsbD i then x.getLsbD i else y.getLsbD i := by
  simp only [BitVec.getLsbD_or, BitVec.getLsbD_and, BitVec.getLsbD_not, hi, decide_true, Bool.true_and]
  cases mask.getLsbD i <;> simp

/-- An output pin reads the latch, an input pin the outside level (rule R354). -/
theorem getLsbD_portData (p : PortState) {i : Nat} (hi : i < 8) :
    (portData p).getLsbD i = if p.ddr.getLsbD i then p.out.getLsbD i else p.pin.getLsbD i :=
  getLsbD_select p.out p.pin p.ddr hi

/-- An event sets the pins that its mask names (rule R358). -/
theorem getLsbD_portPins (p : PortState) (mask value : Byte) {i : Nat} (hi : i < 8) :
    (portPins p mask value).pin.getLsbD i = if mask.getLsbD i then value.getLsbD i else p.pin.getLsbD i := by
  rw [← getLsbD_select value p.pin mask hi, BitVec.or_comm]
  rfl

theorem getLsbD_portData_portPins (p : PortState) (mask value : Byte) {i : Nat} (hi : i < 8) :
    (portData (portPins p mask value)).getLsbD i =
      if p.ddr.getLsbD i then p.out.getLsbD i else if mask.getLsbD i then value.getLsbD i else p.pin.getLsbD i := by
  rw [getLsbD_portData _ hi, getLsbD_portPins p mask value hi]
  rfl

theorem ifIrq_parallel_iff (a b : PortState) :
    ifIrq (.parallel a b) = true ↔ a.hs = true ∧ a.ie = true ∨ b.hs = true ∧ b.ie = true := by
  simp only [ifIrq, Bool.or_eq_true, Bool.and_eq_true]

/-- Settles O56: each access and each event is a case of its definition; the pins are compared bit by bit. -/
theorem handshake : Obligations.Handshake := by
  intro l chip a b v mask value outA outB
  exact ⟨rfl, rfl, rfl, rfl, rfl, rfl, rfl,
    ⟨(portPins a mask value).pin, rfl, fun _ => getLsbD_portData_portPins a mask value⟩,
    ⟨(portPins b mask value).pin, rfl, fun _ => getLsbD_portData_portPins b mask value⟩, ifIrq_parallel_iff a b⟩

/-! ## The serial transmitter -/

theorem serTransmit_empty {u : Serial} (h : u.txEmpty = true) : serTransmit u = (u, false) :=
  if_pos h

theorem serTransmit_due {u : Serial} (h : u.txEmpty = false) (htimer : u.txTimer = 0) :
    serTransmit u = ({ u with txEmpty := true }, true) := by
  simp [serTransmit, h, htimer]

theorem serTransmit_waiting {u : Serial} (h : u.txEmpty = false) (htimer : 0 < u.txTimer) :
    serTransmit u = ({ u with txTimer := u.txTimer - 1 }, false) := by
  simp [serTransmit, h, htimer.ne']

/-- A register without read-only bits takes the byte written as it is (rule R361). -/
theorem writeMasked_zero (old new : Byte) : writeMasked old new 0#8 = new := by
  simp only [writeMasked, BitVec.and_zero, BitVec.zero_or, BitVec.not_zero, BitVec.and_allOnes]

/-- A write to `TX_DATA` replaces the byte and restarts the timer (rule R356). -/
theorem serWrite_txData {l : SerLayout} (h : l.readOnly.lookup .txData = none) (c : Config) (u : Serial) (v : Byte) :
    serWrite c l u v .txData = { u with txData := v, txEmpty := false, txTimer := c.serialTxTicks } := by
  simp only [serWrite, h, Option.getD_none, writeMasked_zero]

/-- The chip `n` updates after it was `u` with a byte in its transmit buffer (`serTransmit_iterate`). -/
def serSending (u : Serial) (n : Nat) : Serial :=
  { u with txEmpty := decide (u.txTimer < n), txTimer := u.txTimer - n }

/-- Of the updates of a chip that sends, the one that finds its timer at 0 sends the byte. -/
theorem serTransmit_serSending (u : Serial) (n : Nat) :
    serTransmit (serSending u n) = (serSending u (n + 1), decide (n = u.txTimer)) := by
  rcases lt_trichotomy n u.txTimer with hlt | heq | hgt
  · rw [serTransmit_waiting (by simp [serSending, hlt.le]) (Nat.sub_pos_of_lt hlt)]
    simp [serSending, hlt.ne, hlt.not_gt, hlt.not_ge, Nat.sub_sub]
  · rw [serTransmit_due (by simp [serSending, heq]) (by simp [serSending, heq])]
    simp [serSending, heq]
  · rw [serTransmit_empty (by simpa [serSending] using hgt)]
    simp [serSending, hgt.ne', hgt, hgt.le, Nat.sub_eq_zero_of_le, hgt.le.trans n.le_succ]

/-- The closed form of any number of updates. -/
theorem serTransmit_iterate {u : Serial} (h : u.txEmpty = false) (n : Nat) :
    (fun x => (serTransmit x).1)^[n] u = serSending u n := by
  induction n with
  | zero => simp [serSending, ← h]
  | succ n ih => rw [Function.iterate_succ_apply', ih, serTransmit_serSending]

theorem ifTick_serial {chip : IfChip} {u : Serial} (h : chip.unit = .serial u) (k : Nat) :
    ifTick k chip = ({ chip with unit := .serial (serTransmit u).1 },
      if (serTransmit u).2 then [.serialTx k u.txData] else []) := by
  simp only [ifTick, h]

/-- Settles O57: the state `n` updates after the write in closed form, by induction on `n`. -/
theorem serialTransmit : Obligations.SerialTransmit := by
  intro c l u v n hro w t
  have hw : w = { u with txData := v, txEmpty := false, txTimer := c.serialTxTicks } := serWrite_txData hro c u v
  have ht : t = serSending w n := serTransmit_iterate (by rw [hw]) n
  have hsent : (serTransmit t).2 = decide (n = c.serialTxTicks) := by rw [ht, serTransmit_serSending, hw]
  have hdata : t.txData = v := by rw [ht, hw, serSending]
  refine ⟨hdata, hsent, by rw [ht, hw, serSending], fun k chip hunit => ?_, by rw [ht, hw, serSending]⟩
  simp only [ifTick_serial hunit, hsent, hdata, decide_eq_true_eq]

end Sys2Proof.Machine
end

section
/-! SUPPORT. Interrupts at an instruction boundary (obligations O5, O6, O41): what the poll takes, the step that runs
what it has taken or the instruction fetched, and the lines from their drivers to the pending flags. -/

namespace Sys2Proof.Machine

/-! ## The poll and the step at a boundary -/

theorem poll_of_reset {u : Cpu} (h : u.pend.resetPending = true) : poll u = some .reset :=
  if_pos h

theorem poll_of_nmi {u : Cpu} (hreset : u.pend.resetPending = false) (h : u.pend.nmiPending = true) :
    poll u = some .nmi := by
  simp [poll, hreset, h]

theorem poll_of_line {u : Cpu} (hreset : u.pend.resetPending = false) (hnmi : u.pend.nmiPending = false) :
    poll u = if u.pend.irqLatched = true ∧ u.regs.p.i = false then some .irq else none := by
  simp [poll, hreset, hnmi]

/-- The poll by priority: each kind is taken exactly when no kind before it is due (rules R420, R421). -/
theorem poll_iff (u : Cpu) :
    (poll u = some .reset ↔ u.pend.resetPending = true) ∧
    (poll u = some .nmi ↔ u.pend.resetPending = false ∧ u.pend.nmiPending = true) ∧
    (poll u = some .irq ↔ u.pend.resetPending = false ∧ u.pend.nmiPending = false ∧ u.pend.irqLatched = true ∧
      u.regs.p.i = false) ∧
    (poll u = none ↔ u.pend.resetPending = false ∧ u.pend.nmiPending = false ∧
      (u.pend.irqLatched = false ∨ u.regs.p.i = true)) := by
  cases hreset : u.pend.resetPending with
  | true => simp [poll_of_reset hreset]
  | false =>
    cases hnmi : u.pend.nmiPending with
    | true => simp [poll_of_nmi hreset hnmi]
    | false =>
      rw [poll_of_line hreset hnmi]
      split
      · next hline => simp [hline]
      · next hline =>
        have hquiet : u.pend.irqLatched = false ∨ u.regs.p.i = true := by simpa [imp_iff_not_or] using hline
        simp [hline, hquiet]

/-- At a boundary the poll is made, as the one poll point there is says (rules R7, R420). -/
theorem pollAt_of_fetch (p : PollPoint) {u : Cpu} (h : u.phase = .fetch) : pollAt p u = poll u := by
  cases p
  exact if_pos h

theorem step_of_fetch {s : State} (hwf : s.cfg.wellFormed = true) (hphase : s.cpu.phase = .fetch) :
    step s = stepBoundary s := by
  simp only [step, hwf, if_true, stepRun, hphase]

theorem pollAt_coreView {s : State} (hphase : s.cpu.phase = .fetch) :
    pollAt s.cfg.pollPoint (coreView s).cpu = poll (coreView s).cpu :=
  pollAt_of_fetch _ ((coreView_cpu_phase s).trans hphase)

theorem stepBoundary_of_interrupt {s : State} {k : SeqKind} (hphase : s.cpu.phase = .fetch)
    (h : poll (coreView s).cpu = some k) : stepBoundary s = .next (takeInterrupt k s) := by
  simp only [stepBoundary, pollAt_coreView hphase, h]

theorem stepBoundary_of_no_interrupt {s : State} (hphase : s.cpu.phase = .fetch)
    (h : poll (coreView s).cpu = none) : stepBoundary s = exec (decodeOpcode (fetchedByte s)) s := by
  simp only [stepBoundary, pollAt_coreView hphase, h]

/-- Settles O6: the poll is decided flag by flag, and the step is what it takes. -/
theorem stepTakesInterrupt : Obligations.StepTakesInterrupt := by
  refine ⟨poll_iff, fun s k hwf hphase hpoll => ?_⟩
  rw [step_of_fetch hwf hphase, stepBoundary_of_interrupt hphase hpoll]

/-- The instruction that the decoder finds is that of the first byte, whatever the formats. -/
theorem instr_of_decodeIn {k : Config} {b : Byte} {bs : List Byte} {c : Code} {rest : List Byte}
    (h : decodeIn k (b :: bs) = .ok (c, rest)) : c.instr = decodeOpcode b := by
  obtain ⟨-, hencode⟩ := encode_of_decodeAs h
  rw [encode, List.cons_append, List.cons.injEq] at hencode
  rw [← hencode.1, decodeOpcode_encodeOpcode]

/-- The byte that T1 reads is the one that a memory region holds at `PC` (rules R81, R131). -/
theorem fetchedByte_of_region {s : State} {x : Byte} (h : regionByte s.cfg s.mem s.banks s.cpu.pc = some x) :
    fetchedByte s = x := by
  obtain ⟨hregion, -⟩ := resolveRead_answers (coreView s).cpu.pc (coreView s)
  exact hregion x (by simpa using h)

/-- Settles O5: with no interrupt taken, the step executes the instruction of the byte fetched. -/
theorem stepRunsDecoded : Obligations.StepRunsDecoded := by
  intro s bs c rest hwf hphase hpoll hdecode
  refine ⟨?_, fun x => fetchedByte_of_region⟩
  rw [step_of_fetch hwf hphase, stepBoundary_of_no_interrupt hphase hpoll, instr_of_decodeIn hdecode]

/-! ## The lines -/

theorem lineAsserted_iff {ls : List (Line × Driver)} {l : Line} :
    lineAsserted ls l = true ↔ ∃ d, (l, d) ∈ ls := by
  simp [lineAsserted]

/-- Routing: the IRQ flag and the memory of the NMI line follow their lines, an edge of NMI and a RESET are kept until
they are served (rule R419). -/
theorem routeLines_iff (ls : List (Line × Driver)) (p : Pending) :
    ((routeLines ls p).irqLatched = true ↔ ∃ d, (Line.irq, d) ∈ ls) ∧
    ((routeLines ls p).nmiLinePrev = true ↔ ∃ d, (Line.nmi, d) ∈ ls) ∧
    ((routeLines ls p).nmiPending = true ↔
      p.nmiPending = true ∨ (∃ d, (Line.nmi, d) ∈ ls) ∧ p.nmiLinePrev = false) ∧
    ((routeLines ls p).resetPending = true ↔ p.resetPending = true ∨ ∃ d, (Line.reset, d) ∈ ls) := by
  simp only [routeLines, Bool.or_eq_true, Bool.and_eq_true, Bool.not_eq_true', lineAsserted_iff, and_self]

/-- The Interface Chips from number `n` on drive exactly the lines of those whose output is asserted (rule R360). -/
theorem mem_ifDrivers {c : Config} {chips : List IfChip} {n : Nat} {l : Line} {d : Driver} :
    (l, d) ∈ ifDrivers c n chips ↔ ∃ (k : Nat) (chip : IfChip),
      chips[k]? = some chip ∧ ifIrq chip.unit = true ∧ l = ifLine c (n + k) ∧ d = .ifChip (n + k) := by
  induction chips generalizing n with
  | nil => simp [ifDrivers]
  | cons chip rest ih =>
    have hhead : (l, d) ∈ (if ifIrq chip.unit then [(ifLine c n, Driver.ifChip n)] else []) ↔
        ifIrq chip.unit = true ∧ l = ifLine c n ∧ d = .ifChip n := by
      split <;> simp [*]
    rw [ifDrivers, List.mem_append, hhead, ih]
    constructor
    · rintro (⟨hirq, hl, hd⟩ | ⟨k, chip', hk, hirq, hl, hd⟩)
      · exact ⟨0, chip, rfl, hirq, hl, hd⟩
      · exact ⟨k + 1, chip', hk, hirq, by rw [hl, Nat.succ_add_eq_add_succ], by rw [hd, Nat.succ_add_eq_add_succ]⟩
    · rintro ⟨k | k, chip', hk, hirq, hl, hd⟩
      · cases hk
        exact .inl ⟨hirq, hl, hd⟩
      · exact .inr ⟨k, chip', hk, hirq, by rw [hl, Nat.succ_add_eq_add_succ],
          by rw [hd, Nat.succ_add_eq_add_succ]⟩

/-- The driven lines, driver by driver (rules R360, R388, R414). -/
theorem mem_drivenLines {t : State} {l : Line} {d : Driver} : (l, d) ∈ drivenLines t ↔
    (∃ (k : Nat) (chip : IfChip), t.ifChips[k]? = some chip ∧ ifIrq chip.unit = true ∧ l = ifLine t.cfg k ∧
      d = .ifChip k) ∨
    (fdcIrq t.cfg.fdc t.fdc = true ∧ l = t.cfg.fdc.line ∧ d = .fdc) ∨ (l ∈ t.sched.envLines ∧ d = .environment) := by
  have hfdc : (l, d) ∈ (if fdcIrq t.cfg.fdc t.fdc then [(t.cfg.fdc.line, Driver.fdc)] else []) ↔
      fdcIrq t.cfg.fdc t.fdc = true ∧ l = t.cfg.fdc.line ∧ d = .fdc := by
    split <;> simp [*]
  have henv : (l, d) ∈ t.sched.envLines.map (fun l => (l, Driver.environment)) ↔
      l ∈ t.sched.envLines ∧ d = .environment := by
    simp [eq_comm]
  rw [drivenLines, List.mem_append, List.mem_append, mem_ifDrivers, hfdc, henv, or_assoc]
  simp only [Nat.zero_add]

@[simp] theorem boundary_envLines (s : State) : (boundary s).sched.envLines = s.nextInput.lines := by
  simp [boundary, boundaryOn]

/-- Settles O41: the drivers write the bitset last in a tick, and the boundary routes what it latches. -/
theorem linesRouted : Obligations.LinesRouted := by
  refine ⟨fun act s => ?_, fun t l => ⟨fun k => ?_, ?_, ?_⟩, fun c k i h => ?_, boundary_envLines⟩
  · intro t p driven
    have hout : t.sched.linesOut = drivenLines t := afterCore_linesOut _
    have hpend : p = routeLines (drivenLines t) t.cpu.pend := by simp only [p, boundary_cpu, hout]
    refine ⟨hout, (boundary_latched t).trans hout, ?_⟩
    rw [hpend]
    exact routeLines_iff _ _
  · simp [mem_drivenLines]
  · simp [mem_drivenLines]
  · simp [mem_drivenLines]
  · simp only [ifLine, h]

end Sys2Proof.Machine
end

section
/-! SUPPORT. Interrupt sequences (obligations O14, O39, O40): tick I1 on the core, and the six rows after it as a
computation on the core's registers, for the three kinds. -/

namespace Sys2Proof.Machine

/-! ## Tick I1 -/

/-- The illegal-instruction condition after tick I1 of a sequence: a RESET clears its flag (rule R432). -/
def illegalAfterEntry (k : SeqKind) (x : Illegal) : Illegal :=
  if k = .reset then { x with flag := false } else x

theorem illegalAfterEntry_of_ne {k : SeqKind} (h : k ≠ .reset) (x : Illegal) : illegalAfterEntry k x = x :=
  if_neg h

/-- The core after tick I1 but for the pending flags (`enterSequence_settled`). -/
def Cpu.entered (k : SeqKind) (u : Cpu) : Cpu :=
  { u with seqKind := k, illegal := illegalAfterEntry k u.illegal }

theorem enterSequence_settled (k : SeqKind) (u : Cpu) : (u.enterSequence k).settled = (u.entered k).settled := by
  cases k <;> rfl

theorem routed_entered_settled (k : SeqKind) (s : State) :
    ((routed s).entered k).settled = (s.cpu.entered k).settled := by
  simp [Cpu.entered, Cpu.settled]

/-- Tick I1 is a discarded read at `PC`, after which the core has entered the sequence (rules R425, R431, R432). -/
theorem cycleAct_enter_cpu (m : Micro) (next : Phase) (k : SeqKind) (s : State) :
    (cycleAct m next (.enter k) s).cpu = { s.cpu.enterSequence k with phase := next } := by
  simp [cycleAct, cycleStored, busRead, cycleCommit, cycleEffect]

theorem tickWith_enter_cpu (m : Micro) (next : Phase) (k : SeqKind) (s : State) :
    (tickWith (cycleAct m next (.enter k)) s).cpu = { (boundary s).cpu.enterSequence k with phase := next } := by
  rw [tickWith, afterCore_cpu, cycleAct_enter_cpu, beforeCore_cpu]

/-! ## The rows after I1 -/

/-- A run of rows computes what `RowsEnsure` says of them, whatever the phases between the rows are called, as long as
none of them is `Fetch`. -/
theorem RowsEnsure.computes_phases {m : Micro} {mk : Nat → Phase} (hmk : ∀ n, mk n ≠ .fetch) {rows : List Cycle}
    {n : Nat} {s : State} {u : Cpu} {post : List Transaction → Cpu → Prop} (hentry : ∀ c ∈ rows, c.isEntry = false)
    (hu : Computes s s [] u) (h : RowsEnsure s.cfg m rows u post) :
    ∃ tr v, Computes s (runCycles m mk n rows s) tr v ∧ post tr v := by
  induction rows generalizing n s u post with
  | nil => exact ⟨[], u, hu, h⟩
  | cons c rest ih =>
    obtain ⟨hc, hrest⟩ := List.forall_mem_cons.mp hentry
    obtain ⟨b, hb, hrow, hphase⟩ := computes_turn_row m (phaseAfter mk n rest) hc hu
    have hafter := h.afterRow hb
    rw [runCycles, hphase]
    unfold AfterRow at hafter
    split at hafter
    · next hends => exact ⟨_, _, by simpa [hends] using hrow, hafter⟩
    · next hgoes =>
      rw [← hrow.makes.cfg_eq] at hafter
      obtain ⟨tr, v, hcomputes, hpost⟩ := ih (n := n + 1) hrest hrow.restart hafter
      refine ⟨_, v, ?_, hpost⟩
      cases rest <;> simpa [hgoes, phaseAfter, hmk] using hrow.trans hcomputes

/-- The rows of a sequence after I1 (rules R425, R430). -/
def rowsAfterEntry (c : Config) (k : SeqKind) : List Cycle :=
  .discardPc :: sequencePushes c k ++ [.vectorLow k, .vectorHigh k]

theorem takeInterrupt_eq (k : SeqKind) (s : State) :
    takeInterrupt k s = runCycles (.nothing []) .interruptSequence 1 (.enter k :: rowsAfterEntry s.cfg k) s := rfl

theorem rowsAfterEntry_not_entry (c : Config) (k : SeqKind) : ∀ x ∈ rowsAfterEntry c k, x.isEntry = false := by
  intro x hx
  simp only [rowsAfterEntry, List.cons_append, List.mem_cons, List.mem_append, List.not_mem_nil, or_false] at hx
  obtain rfl | hx | rfl | rfl := hx
  · rfl
  · exact mem_sequencePushes_not_entry hx
  · rfl
  · rfl

/-- To show a goal about a sequence taken at a state, show it of what the rows after I1 compute on the core that has
entered the sequence, whatever bytes are read. -/
theorem takeInterrupt_elim (k : SeqKind) (s : State) {goal : Prop}
    (h : ∀ d, RowsEnsure s.cfg (.nothing []) (rowsAfterEntry s.cfg k) (s.cpu.entered k) fun tr u =>
      Makes s (takeInterrupt k s) (rd s.cpu.pc d :: tr) → (takeInterrupt k s).cpu.settled = u.settled → goal) :
    goal := by
  obtain ⟨d, t, hcpu, hmakes, hrun⟩ :=
    run_read (.nothing []) .interruptSequence 1 (.enter k) (rowsAfterEntry s.cfg k) s rfl
  have hphase : t.cpu.phase ≠ .fetch := by
    rw [hcpu]
    exact Phase.noConfusion
  rw [if_neg hphase, ← takeInterrupt_eq] at hrun
  have hentered : t.cpu.settled = (s.cpu.entered k).settled := by
    rw [hcpu, cycleCommit_settled, cycleEffect, enterSequence_settled, routed_entered_settled]
  have hstart : Computes t t [] (s.cpu.entered k) :=
    ⟨.refl t, hentered, (congrArg Cpu.illegal hentered).symm, (congrArg Cpu.seqKind hentered).symm⟩
  have hrows := h d
  rw [← hmakes.cfg_eq] at hrows
  obtain ⟨tr, u, hcomputes, hgoal⟩ := hrows.computes_phases (mk := .interruptSequence) (n := 2)
    (fun _ => Phase.noConfusion) (rowsAfterEntry_not_entry _ _) hstart
  rw [hmakes.cfg_eq, ← hrun] at hcomputes
  exact hgoal (by simpa [cycleAddr] using hmakes.trans hcomputes.makes) hcomputes.settled

/-! ## The three kinds -/

/-- The core is that of `s` but for what a sequence of kind `k` changes, `lo` and `hi` being the content of the vector
(rule R425). -/
structure Interrupted (k : SeqKind) (s t : State) (lo hi : Byte) : Prop where
  regs : t.cpu.regs = { s.cpu.regs with s := s.cpu.regs.s - 3#8, p := { s.cpu.regs.p with i := true } }
  pc : t.cpu.pc = join hi lo
  phase : t.cpu.phase = .fetch
  seqKind : t.cpu.seqKind = k
  illegal : t.cpu.illegal = illegalAfterEntry k s.cpu.illegal
  latch : t.cpu.latch = s.cpu.latch

/-- The program counter is loaded byte by byte, `S` goes down row by row (rule R425). -/
theorem interrupted_of_settled {k : SeqKind} {s t : State} {lo hi : Byte} (hphase : t.cpu.phase = .fetch)
    (h : t.cpu.settled = Cpu.settled { s.cpu.entered k with
      pc := join hi (lowByte (join (highByte s.cpu.pc) lo))
      regs := { s.cpu.regs with s := s.cpu.regs.s - 1#8 - 1#8 - 1#8, p := { s.cpu.regs.p with i := true } } }) :
    Interrupted k s t lo hi := by
  rw [join_lowByte_join, ← byte_sub_three] at h
  exact
    { regs := (congrArg Cpu.regs h :)
      pc := (congrArg Cpu.pc h :)
      phase := hphase
      seqKind := (congrArg Cpu.seqKind h :)
      illegal := (congrArg Cpu.illegal h :)
      latch := (congrArg Cpu.latch h :) }

theorem sequencePushes_of_writes {c : Config} {k : SeqKind} (h : k ≠ .reset ∨ c.resetStackWrites = true) :
    sequencePushes c k = [.pushPch, .pushPcl, .pushStatus false] := by
  refine if_neg ?_
  rintro ⟨rfl, hreads⟩
  simp [hreads] at h

theorem sequencePushes_of_reads {c : Config} (h : c.resetStackWrites = false) :
    sequencePushes c .reset = [.stackSkip, .stackSkip, .stackSkip] :=
  if_pos ⟨rfl, h⟩

/-- The status byte that a sequence pushes: the break bit is 0, bit 5 is 1 (rules R200, R425). -/
theorem statusByte_bits (p : Flags) :
    (List.range 8).map (statusByte p false).getLsbD = [p.c, p.z, p.i, p.d, false, true, p.v, p.n] := by
  obtain ⟨n, v, d, i, z, c⟩ := p
  revert n v d i z c
  decide

/-- The three pushes of a sequence go to three addresses. -/
theorem nodup_pushes (k : Config) (x : Byte) :
    [stackAddr k x, stackAddr k (x - 1#8), stackAddr k (x - 2#8)].Nodup := by
  rw [byte_sub_two]
  exact nodup_stackAddr k x

/-- A sequence that writes the stack (rule R425). -/
theorem takeInterrupt_of_writes {k : SeqKind} {s : State} (h : k ≠ .reset ∨ s.cfg.resetStackWrites = true) :
    ∃ d e lo hi,
      Makes s (takeInterrupt k s) [rd s.cpu.pc d, rd s.cpu.pc e,
        wr (stackAddr s.cfg s.cpu.regs.s) (highByte s.cpu.pc),
        wr (stackAddr s.cfg (s.cpu.regs.s - 1#8)) (lowByte s.cpu.pc),
        wr (stackAddr s.cfg (s.cpu.regs.s - 2#8)) (statusByte s.cpu.regs.p false),
        rd (vectorOf s.cfg k) lo, rd (vectorOf s.cfg k + 1#16) hi] ∧
      Interrupted k s (takeInterrupt k s) lo hi := by
  refine takeInterrupt_elim k s fun d => ?_
  rw [rowsAfterEntry, sequencePushes_of_writes h, byte_sub_two]
  intro e lo hi hmakes hsettled
  exact ⟨d, e, lo, hi, hmakes, interrupted_of_settled (takeInterrupt_phase _ s) hsettled⟩

/-- The RESET sequence that reads the stack (rule R430). -/
theorem takeInterrupt_of_reads {s : State} (h : s.cfg.resetStackWrites = false) :
    ∃ d e x y z lo hi,
      Makes s (takeInterrupt .reset s) [rd s.cpu.pc d, rd s.cpu.pc e, rd (stackAddr s.cfg s.cpu.regs.s) x,
        rd (stackAddr s.cfg (s.cpu.regs.s - 1#8)) y, rd (stackAddr s.cfg (s.cpu.regs.s - 2#8)) z,
        rd s.cfg.vectors.reset lo, rd (s.cfg.vectors.reset + 1#16) hi] ∧
      Interrupted .reset s (takeInterrupt .reset s) lo hi := by
  refine takeInterrupt_elim .reset s fun d => ?_
  rw [rowsAfterEntry, sequencePushes_of_reads h, byte_sub_two]
  intro e x y z lo hi hmakes hsettled
  exact ⟨d, e, x, y, z, lo, hi, hmakes, interrupted_of_settled (takeInterrupt_phase _ s) hsettled⟩

/-- Settles O39: I1 and the six rows after it on the core, for the two kinds that always write the stack. -/
theorem interruptEntry : Obligations.InterruptEntry := by
  refine ⟨⟨rfl, rfl, rfl⟩, statusByte_bits, fun s k hk => ?_, fun s m next => ?_⟩
  · obtain ⟨d, e, lo, hi, hmakes, h⟩ := takeInterrupt_of_writes (s := s) (.inl hk)
    have hvector : vectorOf s.cfg k = if k = .nmi then s.cfg.vectors.nmi else s.cfg.vectors.irq := by
      cases k with
      | reset => exact absurd rfl hk
      | _ => rfl
    have hpushed := hmakes.memoryWritten_once rfl (nodup_pushes s.cfg s.cpu.regs.s)
    rw [hvector] at hmakes
    exact ⟨d, e, lo, hi, hmakes, h.regs, h.pc, h.phase, h.seqKind, h.illegal.trans (illegalAfterEntry_of_ne hk _),
      h.latch, hpushed⟩
  · rw [tickWith_enter_cpu]
    rfl

/-- The RESET sequence, by whether it writes the stack; where it does, the bytes `x`, `y` and `z` are arbitrary (rules
R430, R432). -/
theorem takeInterrupt_reset (s : State) : ∃ d e x y z lo hi,
    let stack := [(stackAddr s.cfg s.cpu.regs.s, highByte s.cpu.pc),
      (stackAddr s.cfg (s.cpu.regs.s - 1#8), lowByte s.cpu.pc),
      (stackAddr s.cfg (s.cpu.regs.s - 2#8), statusByte s.cpu.regs.p false)]
    Makes s (takeInterrupt .reset s) ([rd s.cpu.pc d, rd s.cpu.pc e] ++
      (if s.cfg.resetStackWrites then stack.map fun w => wr w.1 w.2
        else [rd (stackAddr s.cfg s.cpu.regs.s) x, rd (stackAddr s.cfg (s.cpu.regs.s - 1#8)) y,
          rd (stackAddr s.cfg (s.cpu.regs.s - 2#8)) z]) ++
      [rd s.cfg.vectors.reset lo, rd (s.cfg.vectors.reset + 1#16) hi]) ∧
    Interrupted .reset s (takeInterrupt .reset s) lo hi ∧
    memoryWritten s (takeInterrupt .reset s) (if s.cfg.resetStackWrites then stack else []) := by
  cases h : s.cfg.resetStackWrites with
  | true =>
    obtain ⟨d, e, lo, hi, hmakes, hcore⟩ := takeInterrupt_of_writes (k := .reset) (.inr h)
    exact ⟨d, e, 0#8, 0#8, 0#8, lo, hi, hmakes, hcore,
      hmakes.memoryWritten_once rfl (nodup_pushes s.cfg s.cpu.regs.s)⟩
  | false =>
    obtain ⟨d, e, x, y, z, lo, hi, hmakes, hcore⟩ := takeInterrupt_of_reads h
    exact ⟨d, e, x, y, z, lo, hi, hmakes, hcore, hmakes.memoryWritten_once rfl List.nodup_nil⟩

/-- Settles O40: the sequence with its stack rows of either sort, and tick I1 on the core. -/
theorem resetSequence : Obligations.ResetSequence := by
  refine ⟨⟨rfl, rfl⟩, fun s => ?_, fun s m next => ?_⟩
  · obtain ⟨d, e, x, y, z, lo, hi, hmakes, h, hstack⟩ := takeInterrupt_reset s
    exact ⟨d, e, x, y, z, lo, hi, hmakes, h.regs, h.pc, h.phase, h.seqKind, h.illegal, h.latch, hstack⟩
  · rw [tickWith_enter_cpu]
    exact ⟨rfl, rfl, rfl⟩

/-- A step from tick I1 runs the sequence as it runs when it is taken at a boundary (rules R50, R425). -/
theorem step_of_entry {s : State} (hwf : s.cfg.wellFormed = true) (hphase : s.cpu.phase = .interruptSequence 1) :
    step s = .next (takeInterrupt s.cpu.seqKind s) := by
  simp only [step, hwf, if_true, stepRun, hphase]
  rfl

/-- Settles O14: the step is the whole sequence of O40. -/
theorem resetSequenceStep : Obligations.ResetSequenceStep := by
  intro s hwf hphase hkind
  obtain ⟨d, e, x, y, z, lo, hi, hmakes, h, hstack⟩ := takeInterrupt_reset s
  refine ⟨takeInterrupt .reset s, d, e, x, y, z, lo, hi, ?_, hmakes, h.regs, h.pc, h.phase, h.seqKind, h.illegal,
    h.latch, hstack⟩
  rw [step_of_entry hwf hphase, hkind]

end Sys2Proof.Machine
end

section
/-! SUPPORT. The floppy controller (obligations O58, O59): what a command write does by what it finds, and a read
command update by update: the seek, the transfer of one byte after the other, and the check at its end. -/

namespace Sys2Proof.Machine

/-! ## Command writes -/

/-- The controller when a command write is taken: the marks of the last command are gone (rule R376). -/
def fdcCleared (f : Fdc) : Fdc :=
  { f with rejected := false, lostData := false, drq := false, irqDone := false, result := .none }

/-- The command record that a command write makes of the parameter registers (rules R372, R376). -/
def fdcRequest (f : Fdc) (kind : FdcKind) : FdcCmd :=
  ⟨kind, f.drive.toNat, f.track.toNat, f.sector.toNat, 0⟩

theorem fdcCommand_busy {f : Fdc} (h : fdcBusy f.state = true) (c : Config) (drives : List (Option Image)) (v : Byte) :
    fdcCommand c drives v f = { f with rejected := true } :=
  if_pos h

theorem fdcCommand_at_rest {f : Fdc} (h : fdcBusy f.state = false) (c : Config) (drives : List (Option Image))
    (v : Byte) : fdcCommand c drives v f = fdcAccept c drives v f :=
  if_neg (by simp [h])

theorem fdcAccept_badCommand {c : Config} {v : Byte} (h : c.fdc.layout.codes.lookup v = none)
    (drives : List (Option Image)) (f : Fdc) :
    fdcAccept c drives v f = fdcFail c.fdc .badCommand (fdcCleared f) := by
  simp only [fdcAccept, h, fdcCleared]

theorem fdcAccept_notReady {c : Config} {drives : List (Option Image)} {v : Byte} {f : Fdc} {kind : FdcKind}
    (h : c.fdc.layout.codes.lookup v = some kind) (hready : driveReady drives f.drive.toNat = false) :
    fdcAccept c drives v f = fdcFail c.fdc .notReady (fdcCleared f) := by
  simp [fdcAccept, h, hready, fdcCleared]

theorem fdcAccept_seekFault {c : Config} {drives : List (Option Image)} {v : Byte} {f : Fdc} {kind : FdcKind}
    (h : c.fdc.layout.codes.lookup v = some kind) (hready : driveReady drives f.drive.toNat = true)
    (hrange : fdcOutOfRange c.disk (fdcRequest f kind) = true) :
    fdcAccept c drives v f = fdcFail c.fdc .seekFault (fdcCleared f) := by
  rw [fdcRequest] at hrange
  simp [fdcAccept, h, hready, hrange, fdcCleared]

theorem fdcAccept_starts {c : Config} {drives : List (Option Image)} {v : Byte} {f : Fdc} {kind : FdcKind}
    (h : c.fdc.layout.codes.lookup v = some kind) (hready : driveReady drives f.drive.toNat = true)
    (hrange : fdcOutOfRange c.disk (fdcRequest f kind) = false) :
    fdcAccept c drives v f =
      { fdcCleared f with cmd := some (fdcRequest f kind), state := .seeking, delay := c.fdc.seekDelay } := by
  rw [fdcRequest] at hrange
  simp [fdcAccept, h, hready, hrange, fdcCleared, fdcRequest]

theorem fdcOutOfRange_iff {c : DiskCfg} {k : FdcCmd} : fdcOutOfRange c k = true ↔
    tracksOf c k.drive ≤ k.track ∨
      (k.kind = .read ∨ k.kind = .write ∨ k.kind = .verify) ∧ sectorsOf c k.drive ≤ k.sector := by
  simp [fdcOutOfRange, or_assoc]

/-- A refused command leaves what rule R376 names, whatever result it ends with. -/
theorem fdcFail_cleared (c : FdcCfg) (code : FdcResult) (f : Fdc) : fdcFail c code (fdcCleared f) =
    { f with
      state := .error, cmd := none, result := code, drq := false, lostData := false, rejected := false,
      irqDone := c.errorIrq } := by
  simp [fdcFail, fdcCleared]

/-- Settles O58: a command write by what it finds, from a busy controller to a target out of range. -/
theorem floppyRefusals : Obligations.FloppyRefusals := by
  intro c drives v f t refused
  refine ⟨fun hbusy => fdcCommand_busy hbusy c drives v, fun hrest hcode _ => ?_, fun kind hrest hcode _ =>
    ⟨fun hready => ?_, fun hready hrange => ?_⟩⟩
  · exact (fdcCommand_at_rest hrest c drives v).trans ((fdcAccept_badCommand hcode drives f).trans (fdcFail_cleared ..))
  · exact (fdcCommand_at_rest hrest c drives v).trans ((fdcAccept_notReady hcode hready).trans (fdcFail_cleared ..))
  · exact (fdcCommand_at_rest hrest c drives v).trans
      ((fdcAccept_seekFault hcode hready (fdcOutOfRange_iff.mpr hrange)).trans (fdcFail_cleared ..))

/-! ## Updates in a row -/

theorem fdcTicks_add (c : Config) (m n : Nat) (drives : List (Option Image)) (f : Fdc) :
    fdcTicks c (m + n) drives f = fdcTicks c n (fdcTicks c m drives f).2 (fdcTicks c m drives f).1 := by
  induction m generalizing drives f with
  | zero => simp [fdcTicks]
  | succ m ih => rw [Nat.succ_add]; exact ih _ _

/-- `n` updates lead the controller from `f` to `g` and leave the drives as they are. -/
def FdcLeads (c : Config) (drives : List (Option Image)) (n : Nat) (f g : Fdc) : Prop :=
  fdcTicks c n drives f = (g, drives)

theorem FdcLeads.trans {c : Config} {drives : List (Option Image)} {m n : Nat} {f g h : Fdc}
    (hfg : FdcLeads c drives m f g) (hgh : FdcLeads c drives n g h) : FdcLeads c drives (m + n) f h := by
  rw [FdcLeads] at hfg
  rw [FdcLeads, fdcTicks_add, hfg]
  exact hgh

theorem fdcLeads_one {c : Config} {drives : List (Option Image)} {f g : Fdc} (h : fdcTick c drives f = (g, drives)) :
    FdcLeads c drives 1 f g := by
  rw [FdcLeads, fdcTicks, h]
  rfl

/-- A controller without a command does nothing (rule R394). -/
theorem fdcLeads_rest {f : Fdc} (h : f.cmd = none) (c : Config) (drives : List (Option Image)) (n : Nat) :
    FdcLeads c drives n f f := by
  have htick : fdcTick c drives f = (f, drives) := by simp only [fdcTick, h]
  induction n with
  | zero => rfl
  | succ n ih => rw [Nat.add_comm]; exact (fdcLeads_one htick).trans ih

theorem fdcTick_of_cmd {f : Fdc} {k : FdcCmd} (h : f.cmd = some k) (c : Config) (drives : List (Option Image)) :
    fdcTick c drives f = fdcBusyTick c drives k f := by
  simp only [fdcTick, h]

/-! ## A read command, update by update -/

/-- The controller while it seeks (rule R379). -/
def fdcSeeking (f : Fdc) (k : FdcCmd) (delay : Nat) : Fdc :=
  { fdcCleared f with cmd := some k, state := .seeking, delay := delay }

/-- The controller in the transfer of the sector `x`, `j` bytes of which it has presented, `r` updates after the last
slot. Nobody takes a byte, so the second one presented is a loss of data (rules R380, R381). -/
def fdcReading (c : FdcCfg) (f : Fdc) (k : FdcCmd) (x : Sector) (j r : Nat) : Fdc :=
  { fdcSeeking f k 0 with
    state := .transferring
    currentTrack := f.currentTrack.set k.drive k.track
    buffer := x.payload
    storedCrc := x.crc
    byteIndex := j
    byteTimer := c.byteTicks - r
    dataReg := if j = 0 then f.dataReg else x.payload.getD (j - 1) 0#8
    drq := decide (0 < j)
    lostData := decide (1 < j) }

/-- The controller after the last slot of a transfer (rule R381). -/
def fdcChecking (c : Config) (f : Fdc) (k : FdcCmd) (x : Sector) : Fdc :=
  { fdcReading c.fdc f k x c.disk.bytesPerSector (c.fdc.byteTicks - 1) with state := .verifying }

/-- The command is a read, the sector is there, and its stored CRC is that of its payload (rules R380, R383). -/
structure ReadsSound (c : Config) (drives : List (Option Image)) (k : FdcCmd) (x : Sector) : Prop where
  kind : k.kind = .read
  found : readSector c.disk drives k.drive k.track k.sector = some x
  sound : crcOf c.disk x.payload = x.crc

theorem fdcTick_seeking (c : Config) (drives : List (Option Image)) (f : Fdc) (k : FdcCmd) (delay : Nat) :
    fdcTick c drives (fdcSeeking f k (delay + 1)) = (fdcSeeking f k delay, drives) := by
  rw [fdcTick_of_cmd rfl]
  simp [fdcBusyTick, fdcSeeking]

/-- The seek ends: the head has moved, the sector stands in the buffer, the transfer starts (rules R378, R380). -/
theorem fdcTick_seeked {c : Config} {drives : List (Option Image)} {k : FdcCmd} {x : Sector}
    (h : ReadsSound c drives k x) (f : Fdc) :
    fdcTick c drives (fdcSeeking f k 0) = (fdcReading c.fdc f k x 0 0, drives) := by
  rw [fdcTick_of_cmd rfl]
  simp [fdcBusyTick, fdcSeeking, fdcBegin, h.kind, fdcLoadThen, fdcLoad, h.found, fdcStartRead, fdcReading, fdcCleared]

theorem fdcTick_between_slots {c : Config} {r : Nat} (h : r + 1 < c.fdc.byteTicks) (drives : List (Option Image))
    (f : Fdc) (k : FdcCmd) (x : Sector) (j : Nat) :
    fdcTick c drives (fdcReading c.fdc f k x j r) = (fdcReading c.fdc f k x j (r + 1), drives) := by
  have htimer : 1 < c.fdc.byteTicks - r := by omega
  rw [fdcTick_of_cmd rfl]
  simp [fdcBusyTick, fdcReading, htimer, Nat.sub_sub]

/-- An update of a transfer whose byte timer has run down is a slot (rule R394). -/
theorem fdcTick_slot {c : Config} {drives : List (Option Image)} {k : FdcCmd} {x : Sector} {r : Nat}
    (h : ReadsSound c drives k x) (hr : r + 1 = c.fdc.byteTicks) (f : Fdc) (j : Nat) :
    fdcTick c drives (fdcReading c.fdc f k x j r) = (fdcReadSlot c (fdcReading c.fdc f k x j r), drives) := by
  have htimer : ¬1 < c.fdc.byteTicks - r := by omega
  rw [fdcTick_of_cmd rfl]
  simp [fdcBusyTick, fdcReading, htimer, fdcSlot, h.kind]

/-- The slot of a byte presents it (rule R381). -/
theorem fdcReadSlot_byte {c : Config} {j : Nat} (hj : j < c.disk.bytesPerSector) (f : Fdc) (k : FdcCmd) (x : Sector)
    (r : Nat) : fdcReadSlot c (fdcReading c.fdc f k x j r) = fdcReading c.fdc f k x (j + 1) 0 := by
  have hlost : (decide (1 < j) || decide (0 < j)) = decide (0 < j) := by
    rw [← Bool.decide_or]
    exact decide_eq_decide.mpr (by omega)
  simp [fdcReadSlot, fdcReading, hj, hlost]

/-- The slot after the last byte ends the transfer (rule R381). -/
theorem fdcReadSlot_end (c : Config) (f : Fdc) (k : FdcCmd) (x : Sector) :
    fdcReadSlot c (fdcReading c.fdc f k x c.disk.bytesPerSector (c.fdc.byteTicks - 1)) = fdcChecking c f k x :=
  if_neg (Nat.lt_irrefl _)

/-- The check of a sound sector ends the command (rule R383). -/
theorem fdcTick_checking {c : Config} {drives : List (Option Image)} {k : FdcCmd} {x : Sector}
    (h : ReadsSound c drives k x) (f : Fdc) :
    fdcTick c drives (fdcChecking c f k x) = (fdcFinish (fdcChecking c f k x), drives) := by
  have hverified : fdcVerified c drives k (fdcChecking c f k x) = true := by
    simp [fdcVerified, h.kind, fdcChecking, fdcReading, h.sound]
  rw [fdcTick_of_cmd rfl]
  exact if_pos hverified

/-! ## The timeline of a read command -/

theorem fdcLeads_seeking (c : Config) (drives : List (Option Image)) (f : Fdc) (k : FdcCmd) (n delay : Nat) :
    FdcLeads c drives n (fdcSeeking f k (n + delay)) (fdcSeeking f k delay) := by
  induction n with
  | zero => rw [Nat.zero_add]; rfl
  | succ n ih =>
    rw [Nat.add_right_comm, Nat.add_comm n 1]
    exact (fdcLeads_one (fdcTick_seeking c drives f k _)).trans ih

theorem fdcLeads_between_slots {c : Config} {r : Nat} (h : r < c.fdc.byteTicks) (drives : List (Option Image))
    (f : Fdc) (k : FdcCmd) (x : Sector) (j : Nat) :
    FdcLeads c drives r (fdcReading c.fdc f k x j 0) (fdcReading c.fdc f k x j r) := by
  induction r with
  | zero => rfl
  | succ r ih => exact (ih (by omega)).trans (fdcLeads_one (fdcTick_between_slots h drives f k x j))

/-- A slot comes every `BYTE_TICKS` updates (rule R381). -/
theorem fdcLeads_slot {c : Config} {drives : List (Option Image)} {k : FdcCmd} {x : Sector}
    (h : ReadsSound c drives k x) (hticks : 0 < c.fdc.byteTicks) (f : Fdc) (j : Nat) :
    FdcLeads c drives c.fdc.byteTicks (fdcReading c.fdc f k x j 0)
      (fdcReadSlot c (fdcReading c.fdc f k x j (c.fdc.byteTicks - 1))) := by
  have hlast : c.fdc.byteTicks - 1 + 1 = c.fdc.byteTicks := Nat.sub_add_cancel hticks
  have hwait := fdcLeads_between_slots (Nat.sub_one_lt_of_lt hticks) drives f k x j
  simpa only [hlast] using hwait.trans (fdcLeads_one (fdcTick_slot h hlast f j))

/-- `j` slots and `r` updates after the start of the transfer (rule R381). -/
theorem fdcLeads_reading {c : Config} {drives : List (Option Image)} {k : FdcCmd} {x : Sector}
    (h : ReadsSound c drives k x) (f : Fdc) {j r : Nat} (hj : j ≤ c.disk.bytesPerSector) (hr : r < c.fdc.byteTicks) :
    FdcLeads c drives (c.fdc.byteTicks * j + r) (fdcReading c.fdc f k x 0 0) (fdcReading c.fdc f k x j r) := by
  have hslots : FdcLeads c drives (c.fdc.byteTicks * j) (fdcReading c.fdc f k x 0 0) (fdcReading c.fdc f k x j 0) := by
    induction j with
    | zero => rfl
    | succ j ih =>
      have hslot := fdcLeads_slot h (Nat.zero_lt_of_lt hr) f j
      rw [fdcReadSlot_byte hj] at hslot
      exact (ih (by omega)).trans hslot
  exact hslots.trans (fdcLeads_between_slots hr drives f k x j)

theorem fdcLeads_begun {c : Config} {drives : List (Option Image)} {k : FdcCmd} {x : Sector}
    (h : ReadsSound c drives k x) (f : Fdc) (delay : Nat) :
    FdcLeads c drives (delay + 1) (fdcSeeking f k delay) (fdcReading c.fdc f k x 0 0) :=
  (fdcLeads_seeking c drives f k delay 0).trans (fdcLeads_one (fdcTick_seeked h f))

theorem fdcLeads_checking {c : Config} {drives : List (Option Image)} {k : FdcCmd} {x : Sector}
    (h : ReadsSound c drives k x) (hticks : 0 < c.fdc.byteTicks) (f : Fdc) (delay : Nat) :
    FdcLeads c drives (delay + 1 + c.fdc.byteTicks * (c.disk.bytesPerSector + 1)) (fdcSeeking f k delay)
      (fdcChecking c f k x) := by
  have hbytes := fdcLeads_reading h f le_rfl hticks
  have hend := fdcLeads_slot h hticks f c.disk.bytesPerSector
  rw [fdcReadSlot_end] at hend
  exact (fdcLeads_begun h f delay).trans (hbytes.trans hend)

/-- The whole command, from the command write to the completion (rules R379, R394). -/
theorem fdcLeads_done {c : Config} {drives : List (Option Image)} {k : FdcCmd} {x : Sector}
    (h : ReadsSound c drives k x) (hticks : 0 < c.fdc.byteTicks) (f : Fdc) (delay : Nat) :
    FdcLeads c drives (delay + 1 + c.fdc.byteTicks * (c.disk.bytesPerSector + 1) + 1) (fdcSeeking f k delay)
      (fdcFinish (fdcChecking c f k x)) :=
  (fdcLeads_checking h hticks f delay).trans (fdcLeads_one (fdcTick_checking h f))

/-- Before its end the command is in its seek, in its transfer or in its check, the controller busy in each. -/
theorem exists_busy_of_lt {c : Config} {drives : List (Option Image)} {k : FdcCmd} {x : Sector}
    (h : ReadsSound c drives k x) (hticks : 0 < c.fdc.byteTicks) (f : Fdc) {delay n : Nat}
    (hn : n < delay + 1 + c.fdc.byteTicks * (c.disk.bytesPerSector + 1) + 1) :
    ∃ g, FdcLeads c drives n (fdcSeeking f k delay) g ∧ fdcBusy g.state = true := by
  obtain hseek | ⟨m, rfl⟩ : n ≤ delay ∨ ∃ m, n = delay + 1 + m := by
    obtain hlt | hle := Nat.lt_or_ge delay n
    · exact .inr (Nat.exists_eq_add_of_le hlt)
    · exact .inl hle
  · have hleads := fdcLeads_seeking c drives f k n (delay - n)
    rw [Nat.add_sub_cancel' hseek] at hleads
    exact ⟨_, hleads, rfl⟩
  · obtain hread | hcheck := Nat.lt_or_ge m (c.fdc.byteTicks * (c.disk.bytesPerSector + 1))
    · have hj : m / c.fdc.byteTicks ≤ c.disk.bytesPerSector := Nat.le_of_lt_succ (Nat.div_lt_of_lt_mul hread)
      have hleads := fdcLeads_reading h f hj (Nat.mod_lt m hticks)
      rw [Nat.div_add_mod] at hleads
      exact ⟨_, (fdcLeads_begun h f delay).trans hleads, rfl⟩
    · obtain rfl : m = c.fdc.byteTicks * (c.disk.bytesPerSector + 1) := by omega
      exact ⟨_, fdcLeads_checking h hticks f delay, rfl⟩

/-- No update writes a drive, neither before the end of the command nor after it (rule R394). -/
theorem fdcTicks_reading_drives {c : Config} {drives : List (Option Image)} {k : FdcCmd} {x : Sector}
    (h : ReadsSound c drives k x) (hticks : 0 < c.fdc.byteTicks) (f : Fdc) (delay n : Nat) :
    (fdcTicks c n drives (fdcSeeking f k delay)).2 = drives := by
  have hleads : ∃ g, FdcLeads c drives n (fdcSeeking f k delay) g := by
    obtain hlt | hge := Nat.lt_or_ge n (delay + 1 + c.fdc.byteTicks * (c.disk.bytesPerSector + 1) + 1)
    · obtain ⟨g, hg, -⟩ := exists_busy_of_lt h hticks f hlt
      exact ⟨g, hg⟩
    · obtain ⟨m, rfl⟩ := Nat.exists_eq_add_of_le hge
      exact ⟨_, (fdcLeads_done h hticks f delay).trans (fdcLeads_rest rfl c drives m)⟩
  obtain ⟨g, hg⟩ := hleads
  exact congrArg Prod.snd hg

/-- A sector that can be read is in a ready drive and within its geometry (rule R401). -/
theorem ready_of_readSector {c : DiskCfg} {drives : List (Option Image)} {d track sector : Nat} {x : Sector}
    (h : readSector c drives d track sector = some x) :
    driveReady drives d = true ∧ track < tracksOf c d ∧ sector < sectorsOf c d := by
  unfold readSector at h
  split at h
  · cases h
  · next i hi =>
    split at h
    · next hplace => exact ⟨by simp [driveReady, hi], hplace⟩
    · cases h

/-- A read command for a sector that is there is taken (rule R376). -/
theorem fdcCommand_read {c : Config} {drives : List (Option Image)} {v : Byte} {f : Fdc} {x : Sector}
    (hrest : fdcBusy f.state = false) (hcode : c.fdc.layout.codes.lookup v = some .read)
    (hx : readSector c.disk drives f.drive.toNat f.track.toNat f.sector.toNat = some x) :
    fdcCommand c drives v f = fdcSeeking f (fdcRequest f .read) c.fdc.seekDelay := by
  obtain ⟨hready, htrack, hsector⟩ := ready_of_readSector hx
  have hrange : fdcOutOfRange c.disk (fdcRequest f .read) = false := by
    rw [Bool.eq_false_iff, ne_eq, fdcOutOfRange_iff]
    simp only [fdcRequest]
    omega
  rw [fdcCommand_at_rest hrest, fdcAccept_starts hcode hready hrange]
  rfl

/-- Settles O59: the states of a read command in their order, each with the number of updates that leads to it. -/
theorem floppyRead : Obligations.FloppyRead := by
  intro c drives v f x d start last hticks hrest hcode hx hlength hcrc after
  have h : ReadsSound c drives (fdcRequest f .read) x := ⟨rfl, hx, hcrc⟩
  have hcmd : fdcCommand c drives v f = fdcSeeking f (fdcRequest f .read) c.fdc.seekDelay :=
    fdcCommand_read hrest hcode hx
  simp only [after, hcmd]
  refine ⟨fdcTicks_reading_drives h hticks f _, fun n hn => ?busy, fun k hk => ?byte, ?done⟩
  case busy =>
    obtain ⟨g, hleads, hbusy⟩ := exists_busy_of_lt h hticks f hn
    rw [hleads]
    exact hbusy
  case byte =>
    have hleads := (fdcLeads_begun h f c.fdc.seekDelay).trans (fdcLeads_reading h f hk hticks)
    have hbyte : x.payload[k]? = some (x.payload.getD k 0#8) := by
      simp [List.getD_eq_getElem?_getD, hlength, hk]
    have hat : FdcLeads c drives (start + c.fdc.byteTicks * (k + 1)) _ _ := hleads
    rw [hat]
    exact ⟨hbyte, rfl⟩
  case done =>
    have hat : FdcLeads c drives last _ _ := fdcLeads_done h hticks f c.fdc.seekDelay
    rw [hat]
    exact ⟨rfl, rfl, rfl, rfl⟩

end Sys2Proof.Machine
end

section
/-! SUPPORT. The disk store (obligation O60): an image as a function of track and sector, the drives as a function of
their number, and what a write changes of both. -/

namespace Sys2Proof.Machine

/-! ## Images -/

theorem imageSector_eq_some {i : Image} {track sector : Nat} {x : Sector} :
    imageSector i track sector = some x ↔ ∃ t, i[track]? = some t ∧ t[sector]? = some x :=
  Option.bind_eq_some_iff

theorem imageSet_of_track {i : Image} {track : Nat} {t : List Sector} (h : i[track]? = some t) (sector : Nat)
    (x : Sector) : imageSet i track sector x = i.set track (t.set sector x) := by
  simp [imageSet, h]

theorem imageSet_of_no_track {i : Image} {track : Nat} (h : i[track]? = none) (sector : Nat) (x : Sector) :
    imageSet i track sector x = i :=
  List.set_eq_of_length_le (List.getElem?_eq_none_iff.mp h)

/-- The sectors of a replaced track. -/
theorem imageSector_set {i : Image} {track : Nat} (h : track < i.length) (t : List Sector) (sector : Nat) :
    imageSector (i.set track t) track sector = t[sector]? := by
  simp [imageSector, h]

/-- Where an image has a sector, a replaced sector is found in its place (rule R402). -/
theorem imageSector_imageSet_same {i : Image} {track sector : Nat} {y : Sector}
    (h : imageSector i track sector = some y) (x : Sector) :
    imageSector (imageSet i track sector x) track sector = some x := by
  obtain ⟨t, ht, hy⟩ := imageSector_eq_some.mp h
  obtain ⟨htrack, -⟩ := List.getElem?_eq_some_iff.mp ht
  obtain ⟨hsector, -⟩ := List.getElem?_eq_some_iff.mp hy
  rw [imageSet_of_track ht, imageSector_set htrack, List.getElem?_set_self hsector]

/-- Every other sector of the image is as before (rule R409). -/
theorem imageSector_imageSet_other (i : Image) {track sector track' sector' : Nat} (x : Sector)
    (h : (track', sector') ≠ (track, sector)) :
    imageSector (imageSet i track sector x) track' sector' = imageSector i track' sector' := by
  cases ht : i[track]? with
  | none => rw [imageSet_of_no_track ht]
  | some t =>
    rw [imageSet_of_track ht]
    obtain htrack | rfl := ne_or_eq track track'
    · rw [imageSector, List.getElem?_set_ne htrack]
      rfl
    · have hsector : sector ≠ sector' := fun heq => h (by rw [heq])
      obtain ⟨hlt, -⟩ := List.getElem?_eq_some_iff.mp ht
      rw [imageSector_set hlt, List.getElem?_set_ne hsector, imageSector, ht]
      rfl

/-- An image of its drive's geometry has every sector within the bounds (rule R400). -/
theorem exists_imageSector {c : DiskCfg} {drives : List (Option Image)} (h : drivesInv c drives) {d : Nat} {i : Image}
    (hi : imageOf drives d = some i) {track sector : Nat} (htrack : track < tracksOf c d)
    (hsector : sector < sectorsOf c d) : ∃ x, imageSector i track sector = some x := by
  obtain ⟨hlength, hfits⟩ := drivesInv_iff.mp h
  have hd := imageOf_eq_some.mp hi
  obtain ⟨hlt, -⟩ := List.getElem?_eq_some_iff.mp hd
  have hg := List.getElem?_eq_getElem (hlength ▸ hlt)
  obtain ⟨htracks, hrows⟩ := diskFits_iff.mp (hfits d _ i hd hg)
  have htrack : track < i.length := by simpa [tracksOf, hg, htracks] using htrack
  obtain ⟨hsectors, -⟩ := hrows _ (List.getElem_mem htrack)
  have hsector : sector < i[track].length := by simpa [sectorsOf, hg, hsectors] using hsector
  exact ⟨i[track][sector], imageSector_eq_some.mpr
    ⟨_, List.getElem?_eq_getElem htrack, List.getElem?_eq_getElem hsector⟩⟩

/-! ## Drives -/

theorem imageOf_set_same {drives : List (Option Image)} {d : Nat} {i : Image} (h : imageOf drives d = some i)
    (j : Image) : imageOf (drives.set d (some j)) d = some j := by
  obtain ⟨hlt, -⟩ := List.getElem?_eq_some_iff.mp (imageOf_eq_some.mp h)
  simp [imageOf, hlt]

theorem imageOf_set_other (drives : List (Option Image)) {d d' : Nat} (h : d ≠ d') (x : Option Image) :
    imageOf (drives.set d x) d' = imageOf drives d' := by
  rw [imageOf, List.getElem?_set_ne h]
  rfl

theorem readSector_of_image {c : DiskCfg} {drives : List (Option Image)} {d : Nat} {i : Image}
    (h : imageOf drives d = some i) (track sector : Nat) : readSector c drives d track sector =
      if track < tracksOf c d ∧ sector < sectorsOf c d then imageSector i track sector else none := by
  simp only [readSector, h]

theorem readSector_congr {c : DiskCfg} {drives drives' : List (Option Image)} {d : Nat}
    (h : imageOf drives' d = imageOf drives d) (track sector : Nat) :
    readSector c drives' d track sector = readSector c drives d track sector := by
  simp only [readSector, h]

/-! ## Writes -/

/-- A write is accepted: an image is there, the place is within its drive's geometry, and the payload fills a sector
(rule R402). -/
def Writable (c : DiskCfg) (drives : List (Option Image)) (d track sector : Nat) (payload : List Byte) : Prop :=
  driveReady drives d = true ∧ track < tracksOf c d ∧ sector < sectorsOf c d ∧ payload.length = c.bytesPerSector

theorem writeSector_of_writable {c : DiskCfg} {drives : List (Option Image)} {d track sector : Nat}
    {payload : List Byte} {i : Image} (hi : imageOf drives d = some i)
    (h : Writable c drives d track sector payload) (crc : Nat) : writeSector c drives d track sector payload crc =
      (drives.set d (some (imageSet i track sector ⟨payload, crc⟩)), true) := by
  obtain ⟨-, hplace⟩ := h
  simp only [writeSector, hi, hplace, and_self, if_true]

theorem writeSector_of_not_writable {c : DiskCfg} {drives : List (Option Image)} {d track sector : Nat}
    {payload : List Byte} (h : ¬Writable c drives d track sector payload) (crc : Nat) :
    writeSector c drives d track sector payload crc = (drives, false) := by
  unfold writeSector
  split
  · rfl
  · next i hi => exact if_neg fun hplace => h ⟨by simp [driveReady, hi], hplace⟩

/-- Settles O60: by whether the write is accepted; an accepted one replaces one sector of one image. -/
theorem diskStore : Obligations.DiskStore := by
  intro c drives d track sector payload crc hdrives w
  by_cases h : Writable c drives d track sector payload
  · have ⟨hready, htrack, hsector, _⟩ := h
    obtain ⟨i, hi⟩ := Option.isSome_iff_exists.mp hready
    have hw : w = (drives.set d (some (imageSet i track sector ⟨payload, crc⟩)), true) :=
      writeSector_of_writable hi h crc
    rw [hw]
    obtain ⟨y, hy⟩ := exists_imageSector hdrives hi htrack hsector
    refine ⟨fun _ => ?_, fun hfailed => absurd hfailed.symm Bool.false_ne_true, fun d' track' sector' hne => ?_,
      iff_of_true rfl h⟩
    · rw [readSector_of_image (imageOf_set_same hi _), if_pos ⟨htrack, hsector⟩, imageSector_imageSet_same hy]
    · obtain hd | rfl := ne_or_eq d d'
      · exact readSector_congr (imageOf_set_other drives hd _) track' sector'
      · rw [readSector_of_image (imageOf_set_same hi _), readSector_of_image hi, imageSector_imageSet_other]
        simpa using hne
  · have hw : w = (drives, false) := writeSector_of_not_writable h crc
    rw [hw]
    exact ⟨fun hok => (Bool.false_ne_true hok).elim, fun _ => rfl, fun _ _ _ _ => rfl,
      iff_of_false Bool.false_ne_true h⟩

end Sys2Proof.Machine
end
